-- ==== Sys2Proof/Word.lean ====
section
/-! DEFINITION. The word types of the Hash core engine: every register is an unsigned 64-bit value and
the input memory is made of bytes (00_scope.md R11, 20_memory.md R61). -/

namespace Sys2Proof

/-- A register or intermediate value, `u64` (00_scope.md R11). -/
abbrev Word := BitVec 64

/-- One byte of the input memory (20_memory.md R61). -/
abbrev Byte := BitVec 8

/-- An 8-bit byte offset into the register window (30_encoding.md R81). -/
abbrev Offset := BitVec 8

end Sys2Proof
end

