-- ==== Sys2Proof/Config.lean ====
section
/-! DEFINITION. What a build of the block fixes (00_scope.md R5, R9; 10_state.md R51), the wired constants
(R7), and the free values the spec leaves open (93_implementation_defined.md I2, I3). -/

namespace Sys2Proof

/-- `MIX_MODE` (00_scope.md R6): how the mixer folds the 128-bit product. -/
inductive MixMode where
  | overwrite
  | accumulate
deriving DecidableEq, Repr

/-- A run of byte addresses: `base, …, base + size - 1`. -/
structure AddrRange where
  base : Nat
  size : Nat
deriving DecidableEq, Repr

/-- `TINY_SHIFTS = (s0, s1, s2)`, each in 0..56 (00_scope.md R5, R9). -/
structure TinyShifts where
  s0 : Fin 57
  s1 : Fin 57
  s2 : Fin 57
deriving DecidableEq, Repr

/-- The configuration, fixed when the block is built (00_scope.md R5; 10_state.md R20, R51).
`admits` is the platform predicate `MEM_ADMITS` as a list of ranges (log entry 2); `volatile` lists the
addresses whose memory has read side effects or does not hold its value (20_memory.md R69, I3;
log entry 8). -/
structure Config where
  mixMode : MixMode
  addrWidth : Nat
  admits : List AddrRange
  volatile : List AddrRange
  tinyShifts : TinyShifts
  finalBSecret : Fin 3
  blockLoopInclusive : Bool
  finalMulFollowsMode : Bool
deriving DecidableEq, Repr

/-- The build with every default of R5, the suggested `ADDR_WIDTH` of 64 and a memory that answers
everywhere. DESIGN CHOICE (log entry 1): the two OPEN parameters take the spec's suggested values. -/
def Config.default : Config where
  mixMode := .overwrite
  addrWidth := 64
  admits := [⟨0, 2 ^ 64⟩]
  volatile := []
  tinyShifts := ⟨0, 8, 16⟩
  finalBSecret := 2
  blockLoopInclusive := false
  finalMulFollowsMode := false

/-- `DEFAULT_SEED` (00_scope.md R7). -/
def defaultSeed : Word := 0xbdd89aa982704029

/-- `DEFAULT_SECRET[k]` (00_scope.md R7). -/
def defaultSecret : Fin 3 → Word
  | 0 => 0x2d358dccaa6c78a5
  | 1 => 0x8bb84b93962eacc9
  | 2 => 0x4b33a62ed433d4a3

/-- The byte a racing read, or a read of memory with read side effects, returns: any value at all
(93_implementation_defined.md I2 and I3, "each racing byte read is a free draw of 8 bits"). The first
argument numbers the step that draws, the second the byte read within the step, so every read is a
draw of its own. It has no body: nothing can be proved of its values (log entries 7 and 8). -/
opaque Config.freeByte (draw site : Nat) : Byte

end Sys2Proof
end

