-- ==== Sys2Proof/Machine/Mixer.lean ====
section
/-! DEFINITION. The multiply-fold mixer (41_mixer.md): the exact widening multiply MUL128, its
schoolbook construction, and the fold MIX in both modes. -/

namespace Sys2Proof.Machine

/-- MUL128: the exact 128-bit product as its low and high halves (41_mixer.md R100). -/
def mul128 (x y : Word) : Word × Word :=
  let p := x.toNat * y.toNat
  (BitVec.ofNat 64 p, BitVec.ofNat 64 (p >>> 64))

/-- The construction from 32-bit halves that R101 writes out. -/
def mul128Schoolbook (x y : Word) : Word × Word :=
  let xl := x.toNat % 2 ^ 32
  let xh := x.toNat >>> 32
  let yl := y.toNat % 2 ^ 32
  let yh := y.toNat >>> 32
  let ll := xl * yl
  let lh := xl * yh
  let hl := xh * yl
  let hh := xh * yh
  let mid := (ll >>> 32) + lh % 2 ^ 32 + hl % 2 ^ 32
  (BitVec.ofNat 64 (ll % 2 ^ 32) ||| BitVec.ofNat 64 (mid <<< 32),
    BitVec.ofNat 64 (hh + (lh >>> 32) + (hl >>> 32) + (mid >>> 32)))

/-- MIX under a mode (41_mixer.md R102). -/
def mix (m : MixMode) (x y : Word) : Word :=
  let p := mul128 x y
  match m with
  | .overwrite => p.1 ^^^ p.2
  | .accumulate => (x ^^^ p.1) ^^^ (y ^^^ p.2)

end Sys2Proof.Machine
end

