-- ==== Sys2Proof/Syntax.lean ====
section
/-! DEFINITION. What the agents can be asked to do: the instructions (one constructor for each row of
spec/opcode_table.json), the phase codes that issue the micro-operations, the names of the
host-visible registers, the host's events and its program lines. -/

namespace Sys2Proof

/-- The instructions. The first four are the command words the host writes to CMD
(30_encoding.md R83), with their DS and DK bits; the other fourteen are the micro-operations the
sequencer issues (R86). -/
inductive Instr where
  | digest (ds dk : Bool)
  | fixed64 (ds dk : Bool)
  | fixed32 (ds dk : Bool)
  | clrstat
  | seed
  | dispatch
  | empty
  | tiny
  | short
  | block
  | fold
  | tail1
  | tail2
  | last
  | final
  | out
  | fix8
  | fix4
deriving DecidableEq, Repr

/-- The sequencer phases (30_encoding.md R86). Code 15 never occurs (R87), so it has no constructor
(log entry 17). -/
inductive Phase where
  | idle
  | seed
  | dispatch
  | empty
  | tiny
  | short
  | block
  | fold
  | tail1
  | tail2
  | last
  | final
  | out
  | fix8
  | fix4
deriving DecidableEq, Repr

/-- The two encoded objects that stand for an instruction (30_encoding.md R80): a 64-bit word written
to CMD, or a 4-bit phase code. -/
inductive Code where
  | command (w : Word)
  | phase (c : BitVec 4)
deriving DecidableEq, Repr

/-- The host-visible registers (10_state.md R22). -/
inductive Reg where
  | cmd
  | status
  | seed
  | len
  | src
  | value
  | secret0
  | secret1
  | secret2
  | digest
  | config
  | errinfo
deriving DecidableEq, Repr

/-- What the host does in one turn. `write` and `read` are the transactions `W off data` and `R off`
of 30_encoding.md R81. `poll` is one round of the POLL loop of R90. `storeBegin` and `store` are the
beginning and the completion of a host store of one byte to the input memory (20_memory.md R73).
`reset` asserts the reset input (70_reset_and_hazards.md R230). `irregular` is an access of another
width than 64 bits (93_implementation_defined.md I4) and `duringReset` an access that overlaps the
assertion of reset (I5). -/
inductive HostEvent where
  | write (off : Offset) (data : Word)
  | read (off : Offset)
  | poll
  | storeBegin (addr : Nat)
  | store (addr : Nat) (value : Byte)
  | reset
  | irregular (bits : Nat) (off : Offset)
  | duringReset (off : Offset)
deriving DecidableEq, Repr

/-- Whose turn it is (00_scope.md R10): the core's, or the host's with what it does. -/
inductive Turn where
  | core
  | host (e : HostEvent)
deriving DecidableEq, Repr

/-- One line of a host program (30_encoding.md R89), the pseudo-instructions of R90 included. -/
inductive HostLine where
  | wr (r : Reg) (imm : Word)
  | rd (r : Reg)
  | cmd (i : Instr)
  | poll
  | hash (src len : Word)
  | hashs (src len seed : Word)
  | hashf64 (v : Word)
  | hashf32 (v : Word)
deriving DecidableEq, Repr

end Sys2Proof
end

