-- ==== Sys2Proof/WellFormed.lean ====
section
/-! DEFINITION. Which terms of the syntax and of the configuration the spec admits. -/

namespace Sys2Proof

/-- Every term of `Instr` is an instruction: DS and DK are single bits and each may be 0 or 1
(30_encoding.md R83); CLRSTAT, whose DS and DK must be 0, has no such fields. -/
def Instr.wf : Instr → Bool
  | .digest _ _ | .fixed64 _ _ | .fixed32 _ _ | .clrstat => true
  | .seed | .dispatch | .empty | .tiny | .short | .block | .fold | .tail1 | .tail2 | .last | .final
  | .out | .fix8 | .fix4 => true

/-- The instructions a host can issue: those encoded as a command word (30_encoding.md R80). -/
def Instr.isCommand : Instr → Bool
  | .digest _ _ | .fixed64 _ _ | .fixed32 _ _ | .clrstat => true
  | .seed | .dispatch | .empty | .tiny | .short | .block | .fold | .tail1 | .tail2 | .last | .final
  | .out | .fix8 | .fix4 => false

/-- A legal configuration (00_scope.md R5): `ADDR_WIDTH` in 1..64. The other ranges of R5 are in the
fields' types. -/
def Config.wf (c : Config) : Bool := decide (1 ≤ c.addrWidth) && decide (c.addrWidth ≤ 64)

/-- An offset of the register window that a whole 64-bit access may name: a multiple of 8
(30_encoding.md R81). -/
def offsetWf (off : Offset) : Bool := off.toNat % 8 == 0

/-- A host event the spec gives an effect for: register accesses at multiples of 8 (30_encoding.md
R81), stores inside the input memory's address space (20_memory.md R61), reset, POLL. -/
def HostEvent.wf (c : Config) : HostEvent → Bool
  | .write off _ => offsetWf off
  | .read off => offsetWf off
  | .poll => true
  | .storeBegin addr => decide (addr < 2 ^ c.addrWidth)
  | .store addr _ => decide (addr < 2 ^ c.addrWidth)
  | .reset => true
  | .irregular _ _ => false
  | .duringReset _ => false

/-- A line of a host program names a command, never a micro-operation (30_encoding.md R80, R89). -/
def HostLine.wf : HostLine → Bool
  | .cmd i => i.isCommand
  | .wr _ _ | .rd _ | .poll | .hash _ _ | .hashs _ _ _ | .hashf64 _ | .hashf32 _ => true

end Sys2Proof
end

