-- ==== Sys2Proof/Decode.lean ====
section
/-! DEFINITION. The decoder of command words and of phase codes, total, rejecting by name
(30_encoding.md R82 to R88), and after it the encoder, written from the same tables. -/

namespace Sys2Proof

/-- Why a code stands for no instruction. -/
inductive DecodeError where
  /-- A bit of RSV, bits 63:6, is set (30_encoding.md R85). -/
  | reservedBits
  /-- OP is 0x0 or 0x5 to 0xF (30_encoding.md R83, R85). -/
  | reservedOp (op : BitVec 4)
  /-- CLRSTAT with DS or DK set (30_encoding.md R85). -/
  | clrstatOperand
  /-- Phase code 0, IDLE: the core has no step (30_encoding.md R86). -/
  | idle
  /-- Phase code 15, which never occurs (30_encoding.md R87). -/
  | reservedPhase
deriving DecidableEq, Repr

/-- OP, bits 3:0 of a command word (30_encoding.md R82). -/
def opField (w : Word) : BitVec 4 := w.extractLsb' 0 4

/-- DS, bit 4 (30_encoding.md R82). -/
def dsField (w : Word) : Bool := w.getLsbD 4

/-- DK, bit 5 (30_encoding.md R82). -/
def dkField (w : Word) : Bool := w.getLsbD 5

/-- RSV, bits 63:6 (30_encoding.md R82). -/
def rsvField (w : Word) : BitVec 58 := w.extractLsb' 6 58

/-- Decode a command word: first RSV, then OP, then DS and DK for CLRSTAT (30_encoding.md R83, R85,
R88). -/
def decodeCommand (w : Word) : Except DecodeError Instr :=
  if rsvField w = 0 then
    match (opField w).toNat with
    | 1 => .ok (.digest (dsField w) (dkField w))
    | 2 => .ok (.fixed64 (dsField w) (dkField w))
    | 3 => .ok (.fixed32 (dsField w) (dkField w))
    | 4 => if dsField w || dkField w then .error .clrstatOperand else .ok .clrstat
    | _ => .error (.reservedOp (opField w))
  else .error .reservedBits

/-- Decode a phase code (30_encoding.md R86, R87). -/
def decodePhase (c : BitVec 4) : Except DecodeError Instr :=
  match c.toNat with
  | 0 => .error .idle
  | 1 => .ok .seed
  | 2 => .ok .dispatch
  | 3 => .ok .empty
  | 4 => .ok .tiny
  | 5 => .ok .short
  | 6 => .ok .block
  | 7 => .ok .fold
  | 8 => .ok .tail1
  | 9 => .ok .tail2
  | 10 => .ok .last
  | 11 => .ok .final
  | 12 => .ok .out
  | 13 => .ok .fix8
  | 14 => .ok .fix4
  | _ => .error .reservedPhase

/-- Decode either kind of code (30_encoding.md R80). -/
def decode : Code → Except DecodeError Instr
  | .command w => decodeCommand w
  | .phase c => decodePhase c

/-- A word is a legal command word exactly when it decodes (30_encoding.md R85). -/
def legalCommand (w : Word) : Bool :=
  match decodeCommand w with
  | .ok _ => true
  | .error _ => false

/-- The command word with the given OP, DS and DK, and RSV = 0 (30_encoding.md R82). -/
def commandWord (op : BitVec 4) (ds dk : Bool) : Word :=
  op.setWidth 64 ||| ((BitVec.ofBool ds).setWidth 64 <<< 4) ||| ((BitVec.ofBool dk).setWidth 64 <<< 5)

/-- The code of an instruction (30_encoding.md R83, R86). -/
def encode : Instr → Code
  | .digest ds dk => .command (commandWord 1 ds dk)
  | .fixed64 ds dk => .command (commandWord 2 ds dk)
  | .fixed32 ds dk => .command (commandWord 3 ds dk)
  | .clrstat => .command (commandWord 4 false false)
  | .seed => .phase 1
  | .dispatch => .phase 2
  | .empty => .phase 3
  | .tiny => .phase 4
  | .short => .phase 5
  | .block => .phase 6
  | .fold => .phase 7
  | .tail1 => .phase 8
  | .tail2 => .phase 9
  | .last => .phase 10
  | .final => .phase 11
  | .out => .phase 12
  | .fix8 => .phase 13
  | .fix4 => .phase 14

/-- The phase code of a sequencer phase, which STATUS.PHASE shows (30_encoding.md R86). -/
def Phase.code : Phase → BitVec 4
  | .idle => 0
  | .seed => 1
  | .dispatch => 2
  | .empty => 3
  | .tiny => 4
  | .short => 5
  | .block => 6
  | .fold => 7
  | .tail1 => 8
  | .tail2 => 9
  | .last => 10
  | .final => 11
  | .out => 12
  | .fix8 => 13
  | .fix4 => 14

/-- The phase with a given code; code 15 has none (30_encoding.md R86, R87). -/
def phaseOfCode (c : BitVec 4) : Option Phase :=
  match c.toNat with
  | 0 => some .idle
  | 1 => some .seed
  | 2 => some .dispatch
  | 3 => some .empty
  | 4 => some .tiny
  | 5 => some .short
  | 6 => some .block
  | 7 => some .fold
  | 8 => some .tail1
  | 9 => some .tail2
  | 10 => some .last
  | 11 => some .final
  | 12 => some .out
  | 13 => some .fix8
  | 14 => some .fix4
  | _ => none

/-- The code that `nbits` bits of value `w` are: at most 8 bits hold a 4-bit phase code, 9 to 64 bits
a command word (spec/opcode_table.json gives its PHASE rows 4 bits and its CMD rows 64; log entry 11). -/
def tableCode (nbits w : Nat) : Option Code :=
  if nbits ≤ 8 then if w < 2 ^ 4 then some (.phase (BitVec.ofNat 4 w)) else none
  else if nbits ≤ 64 then if w < 2 ^ 64 then some (.command (BitVec.ofNat 64 w)) else none
  else none

/-- The instruction this decoder reads from a row of spec/opcode_table.json whose bits are `w`. -/
def decodeTableWord (nbits w : Nat) : Option Instr :=
  match tableCode nbits w with
  | none => none
  | some c =>
    match decode c with
    | .ok i => some i
    | .error _ => none

end Sys2Proof
end

