-- ==== Sys2Proof/Machine/State.lean ====
section
/-! DEFINITION. The state of the block (10_state.md R20): configuration, host-visible registers, working
registers and sequencer phase; with the input memory the core reads and the model's own fields. Also the
state after reset (10_state.md R36, 70_reset_and_hazards.md R230), the reasons a step can stop, and the
spec's error causes. -/

namespace Sys2Proof.Machine

/-- Why the machine stops with a fault. The spec's own errors (60_exceptions.md R200) are not faults:
they are reported in STATUS and the machine goes on. -/
inductive Fault where
  /-- Raised by a host store at or above `2^ADDR_WIDTH`, an address the input memory does not have
  (20_memory.md R61; log entry 5). Safe: the spec gives such a store no effect. -/
  | noSuchAddress (addr : Nat)
deriving DecidableEq, Repr

/-- Why the model gives an event no meaning. -/
inductive Refusal where
  /-- Raised by the dispatcher for an instruction whose meaning is not written yet. Safe. -/
  | notModelled (mnemonic : String)
  /-- Raised by a host access to the register window that is not a whole, aligned 64-bit access: "The
  block's response … is not specified, and the model refuses such an access" (30_encoding.md R81, I4;
  log entry 12). Safe. -/
  | unspecifiedAccess (off : Offset)
  /-- Raised by a host access that overlaps the assertion of reset, which "has no specified effect"
  (70_reset_and_hazards.md R231, I5; log entry 12). Safe. -/
  | accessDuringReset (off : Offset)
deriving DecidableEq, Repr

/-- The spec's errors with what each records (60_exceptions.md R200). -/
inductive ErrorCause where
  | illegalCommand (w : Word)
  | writeWhileBusy (off : Offset)
  | busError (addr : Nat)
deriving DecidableEq, Repr

/-- KIND, which command is in progress (10_state.md R42). The value 3 is never written, so it has no
constructor (log entry 17). -/
inductive Kind where
  | digest
  | fixed64
  | fixed32
deriving DecidableEq, Repr

/-- The input memory: address and byte, addresses strictly rising, no entry equal to what an unlisted
address reads as (20_memory.md R61; log entry 6). -/
abbrev Memory := List Host.Cell

/-- What a byte of the input memory that nothing has written reads as. DESIGN CHOICE (log entry 6): the
spec gives the host's memory no power-on contents. -/
def unlistedByte : Byte := 0

/-- The machine's state. -/
structure State where
  /-- The configuration of the build (10_state.md R20, R51). -/
  cfg : Config
  /-- STATUS bit 0 (10_state.md R24, R25). -/
  busy : Bool
  /-- STATUS bit 1 (R24, R26). -/
  done : Bool
  /-- STATUS bit 2 (R24, R27). -/
  illegal : Bool
  /-- STATUS bit 3 (R24, R27). -/
  wbusy : Bool
  /-- STATUS bit 4 (R24, R27). -/
  buserr : Bool
  /-- SEED (R29). -/
  seed : Word
  /-- LEN (R29). -/
  len : Word
  /-- SRC (R30), the bits at and above `ADDR_WIDTH` zero. -/
  src : Word
  /-- VALUE (R30). -/
  value : Word
  /-- SECRET0 (R32). -/
  secret0 : Word
  /-- SECRET1 (R32). -/
  secret1 : Word
  /-- SECRET2 (R32). -/
  secret2 : Word
  /-- DIGEST (R33). -/
  digest : Word
  /-- ERRINFO (R34). -/
  errinfo : Word
  /-- The sequencer register (R40); STATUS.PHASE shows its code. -/
  phase : Phase
  /-- KIND (R41, R42). -/
  kind : Kind
  /-- LW, the source's `L` (R41). -/
  lw : Word
  /-- BASE, the buffer's address (R41). -/
  base : Word
  /-- VW, the source's `value` (R41). -/
  vw : Word
  /-- S0, the source's `secret[0]` (R41, R43). -/
  s0 : Word
  /-- S1 (R41, R43). -/
  s1 : Word
  /-- S2 (R41, R43). -/
  s2 : Word
  /-- SEEDW, the working seed (R41, R44). -/
  seedw : Word
  /-- SEE1 (R41, R44). -/
  see1 : Word
  /-- SEE2 (R41, R44). -/
  see2 : Word
  /-- A (R41, R45). -/
  a : Word
  /-- B (R41, R45). -/
  b : Word
  /-- I, the remaining count (R41, R46). -/
  i : Word
  /-- The host's input memory (20_memory.md R61). -/
  mem : Memory
  /-- The model's own: addresses of host stores begun and not yet completed (R73; log entry 7). -/
  inFlight : List Nat
  /-- The model's own: addresses stored to since the command in progress was accepted (R73; log entry 7). -/
  racing : List Nat
  /-- The model's own: numbers the steps that read the input memory, so that each free read is a new
  draw (I2; log entry 7). -/
  draws : Nat
  /-- The model's own: the turns still to come, next first (R10, I11; log entry 3). -/
  schedule : List Turn
  /-- The model's own: what host reads returned, newest first (R81, R187; log entry 4). -/
  reads : List (Offset × Word)
deriving DecidableEq, Repr

/-- The machine right after reset, in the default build (10_state.md R36, 70_reset_and_hazards.md
R230). The working registers have no specified value at reset and "a model may give them any value"
(R47): zero here, DESIGN CHOICE (log entry 9). -/
def State.reset : State where
  cfg := Config.default
  busy := false
  done := false
  illegal := false
  wbusy := false
  buserr := false
  seed := defaultSeed
  len := 0
  src := 0
  value := 0
  secret0 := defaultSecret 0
  secret1 := defaultSecret 1
  secret2 := defaultSecret 2
  digest := 0
  errinfo := 0
  phase := .idle
  kind := .digest
  lw := 0
  base := 0
  vw := 0
  s0 := 0
  s1 := 0
  s2 := 0
  seedw := 0
  see1 := 0
  see2 := 0
  a := 0
  b := 0
  i := 0
  mem := []
  inFlight := []
  racing := []
  draws := 0
  schedule := []
  reads := []

end Sys2Proof.Machine
end

