-- ==== Sys2Proof/Machine/Flags.lean ====
section
/-! DEFINITION. The STATUS register and who sets which of its bits (10_state.md R24 to R28, R37;
60_exceptions.md R200, R204). The block has no condition codes: these are its only flags (R37). -/

namespace Sys2Proof.Machine

/-- A flag placed at bit `n` of a 64-bit word. -/
def flagAt (b : Bool) (n : Nat) : Word := (BitVec.ofBool b).setWidth 64 <<< n

/-- What a read of STATUS returns (10_state.md R24): BUSY, DONE, ILLEGAL, WBUSY, BUSERR in bits 4:0,
PHASE in bits 11:8, the rest 0. -/
def statusWord (s : State) : Word :=
  flagAt s.busy 0 ||| flagAt s.done 1 ||| flagAt s.illegal 2 ||| flagAt s.wbusy 3 |||
    flagAt s.buserr 4 ||| (s.phase.code.setWidth 64 <<< 8)

/-- ILLEGAL, WBUSY and BUSERR are all 0 (60_exceptions.md R204). -/
def noError (s : State) : Bool := !s.illegal && !s.wbusy && !s.buserr

/-- The cause code, the STATUS bit the error sets (60_exceptions.md R200). -/
def ErrorCause.code : ErrorCause → Nat
  | .illegalCommand _ => 2
  | .writeWhileBusy _ => 3
  | .busError _ => 4

/-- What the error records in ERRINFO (60_exceptions.md R200; 10_state.md R34). -/
def ErrorCause.record : ErrorCause → Word
  | .illegalCommand w => w
  | .writeWhileBusy off => off.setWidth 64
  | .busError addr => BitVec.ofNat 64 addr

/-- ERRINFO after an error event: the event's record if no error bit was set, else unchanged
(60_exceptions.md R204). -/
def errinfoAfter (c : ErrorCause) (s : State) : Word := if noError s then c.record else s.errinfo

/-- The flags at the accept of a digest command: BUSY 1, DONE 0 (10_state.md R37). -/
def acceptFlags (s : State) : State := { s with busy := true, done := false }

/-- The flags at completion: DONE 1, BUSY 0 (10_state.md R37; 44_finalizer.md R162). -/
def completeFlags (s : State) : State := { s with busy := false, done := true }

/-- The flags at a bus-error abort: BUSY 0, DONE 0 (10_state.md R37; 60_exceptions.md R203). -/
def abortFlags (s : State) : State := { s with busy := false, done := false }

end Sys2Proof.Machine
end

