-- ==== Sys2Proof/Machine/Sequencer.lean ====
section
/-! DEFINITION. The sequencer's control: which addresses the memory answers, which bytes each
micro-operation reads, and the successor of each phase, a function of KIND, LW, I and the configuration
alone (43_block_loop.md R147). From it follows which stores of the host still to come fall inside the command
in progress (20_memory.md R73). -/

namespace Sys2Proof.Machine

/-- The address lies in the range. -/
def rangeHas (r : AddrRange) (a : Nat) : Bool := decide (r.base ≤ a) && decide (a < r.base + r.size)

/-- The memory answers a read at this address: below `2^ADDR_WIDTH` and `MEM_ADMITS`
(20_memory.md R61). -/
def admitted (c : Config) (a : Nat) : Bool :=
  decide (a < 2 ^ c.addrWidth) && c.admits.any (rangeHas · a)

/-- The current read position `p = L - i` (10_state.md R46). The rules never form a negative offset
(43_block_loop.md R146); a state that no run reaches gives 0 (log entry 10). -/
def pos (s : State) : Nat := s.lw.toNat - s.i.toNat

/-- The overlap offset `delta = (L & 24) >> (L >> 3)` (42_seed_dispatch.md R128). -/
def delta (L : Nat) : Nat := (L &&& 24) >>> (L >>> 3)

/-- CONTINUE(i'): `i' > 48`, or `i' >= 48` when BLOCK_LOOP_INCLUSIVE (43_block_loop.md R141). -/
def continues (c : Config) (i : Word) : Bool :=
  if c.blockLoopInclusive then decide (48 ≤ i.toNat) else decide (48 < i.toNat)

/-- The offsets of an `n`-byte window. -/
def window (off n : Nat) : List Nat := (List.range n).map (off + ·)

/-- The read set of TINY (42_seed_dispatch.md R125). -/
def tinyReads (L : Nat) : List Nat := [0, L >>> 1, L - 1]

/-- The read set of SHORT: its four windows (42_seed_dispatch.md R129, R130). -/
def shortReads (L : Nat) : List Nat :=
  window 0 4 ++ window (L - 4) 4 ++ window (delta L) 4 ++ window (L - 4 - delta L) 4

/-- The byte offsets a micro-operation reads (20_memory.md R65); the other instructions read nothing. -/
def readSet (i : Instr) (s : State) : List Nat :=
  match i with
  | .tiny => tinyReads s.lw.toNat
  | .short => shortReads s.lw.toNat
  | .block => window (pos s) 48
  | .tail1 => window (pos s) 16
  | .tail2 => window (pos s + 16) 16
  | .last => window (s.lw.toNat - 16) 16
  | .digest _ _ | .fixed64 _ _ | .fixed32 _ _ | .clrstat | .seed | .dispatch | .empty | .fold
  | .final | .out | .fix8 | .fix4 => []

/-- The lowest refused address of a step's read set, given as byte offsets into the input; an offset
at or past `L` makes no bus read (20_memory.md R61, R63, R68). -/
def refusedIn (s : State) (offs : List Nat) : Option Nat :=
  (((offs.filter fun j => decide (j < s.lw.toNat)).map (s.base.toNat + ·)).filter
    fun a => !admitted s.cfg a).min?

/-- The micro-operation a phase names; IDLE names none (10_state.md R40, 30_encoding.md R86). -/
def microOf : Phase → Option Instr
  | .idle => none
  | .seed => some .seed
  | .dispatch => some .dispatch
  | .empty => some .empty
  | .tiny => some .tiny
  | .short => some .short
  | .block => some .block
  | .fold => some .fold
  | .tail1 => some .tail1
  | .tail2 => some .tail2
  | .last => some .last
  | .final => some .final
  | .out => some .out
  | .fix8 => some .fix8
  | .fix4 => some .fix4

/-- The successor of SEED, by KIND (42_seed_dispatch.md R120). -/
def afterSeed : Kind → Phase
  | .digest => .dispatch
  | .fixed64 => .fix8
  | .fixed32 => .fix4

/-- The successor of DISPATCH, by L (42_seed_dispatch.md R122). -/
def afterDispatch (lw : Word) : Phase :=
  if lw.toNat = 0 then .empty
  else if lw.toNat ≤ 3 then .tiny
  else if lw.toNat ≤ 16 then .short
  else if lw.toNat ≤ 48 then .tail1
  else .block

/-- The successor of BLOCK, by the new count (43_block_loop.md R141). -/
def afterBlock (c : Config) (i : Word) : Phase := if continues c i then .block else .fold

/-- The successor of FOLD, by the count (43_block_loop.md R142). -/
def afterFold (i : Word) : Phase := if 16 < i.toNat then .tail1 else .last

/-- The successor of TAIL1, by the count (43_block_loop.md R143). -/
def afterTail1 (i : Word) : Phase := if 32 < i.toNat then .tail2 else .last

/-- The phase after a core step that does not abort (30_encoding.md R86). -/
def successor (s : State) : Phase :=
  match s.phase with
  | .idle => .idle
  | .seed => afterSeed s.kind
  | .dispatch => afterDispatch s.lw
  | .empty => .final
  | .tiny => .final
  | .short => .final
  | .block => afterBlock s.cfg (s.i - 48)
  | .fold => afterFold s.i
  | .tail1 => afterTail1 s.i
  | .tail2 => .last
  | .last => .final
  | .final => .out
  | .out => .idle
  | .fix8 => .final
  | .fix4 => .final

/-- The count I after a core step that does not abort: DISPATCH sets it where `L > 16`, BLOCK counts down,
modulo 2^64 where `I < 48`, which no run reaches (10_state.md R46; log entry 10). -/
def countAfter (s : State) : Word :=
  match s.phase with
  | .dispatch => if s.lw.toNat ≤ 16 then s.i else s.lw
  | .block => s.i - 48
  | .idle | .seed | .empty | .tiny | .short | .fold | .tail1 | .tail2 | .last | .final | .out | .fix8
  | .fix4 => s.i

/-- A core step seen through phase and count only: on to the successor, or to IDLE where a byte of the
read set is refused (20_memory.md R68, 60_exceptions.md R203). -/
def controlStep (s : State) : State :=
  match microOf s.phase with
  | none => s
  | some m =>
    match refusedIn s (readSet m s) with
    | some _ => { s with phase := .idle }
    | none => { s with phase := successor s, i := countAfter s }

/-- The command in progress has a store to address `a` still to come: among the turns `ts`, before the one
that ends the command, a host store to `a` begins or completes. The core's turns are followed through
`controlStep`; reset ends the command, a POLL while busy comes round until it has ended (30_encoding.md
R90), and at a turn that stops the machine nothing more comes (20_memory.md R73; log entry 7). -/
def storeAhead (a : Nat) : List Turn → State → Bool
  | [], _ => false
  | .core :: ts, s => storeAhead a ts (controlStep s) && (controlStep s).phase != .idle
  | .host e :: ts, s =>
    match e with
    | .store b _ | .storeBegin b =>
      decide (b < 2 ^ s.cfg.addrWidth) && (b == a || storeAhead a ts s)
    | .write off _ | .read off => offsetWf off && storeAhead a ts s
    | .poll | .reset | .irregular _ _ | .duringReset _ => false

end Sys2Proof.Machine
end

