-- ==== Sys2Proof/Machine/Operands.lean ====
section
/-! DEFINITION. Where a step's operands come from: the host-visible registers at accept
(30_encoding.md R84; 46_commands.md R182, R183), the input memory byte by byte (20_memory.md R60 to
R68), and the working registers. -/

namespace Sys2Proof.Machine

/-- The byte of the input memory at an address; an unlisted address reads `unlistedByte`. -/
def Memory.read : Memory → Nat → Byte
  | [], _ => unlistedByte
  | (k, v) :: m, a => if k = a then v else Memory.read m a

/-- A read of this address may return any value: the host writes the byte during the command, before or
after this read (20_memory.md R73, 70_reset_and_hazards.md R234, I2; log entry 7), or the memory there has
read side effects (R69, I3; log entry 8). The read belongs to the core's turn, so the look ahead for stores
begins with that turn. -/
def unstable (s : State) (a : Nat) : Bool :=
  s.racing.elem a || s.inFlight.elem a || s.cfg.volatile.any (rangeHas · a) ||
    storeAhead a (.core :: s.schedule) s

/-- The value an admitted read returns: the byte the memory holds, or a free draw where the read
races (20_memory.md R61, R73). `site` numbers the read within its step. -/
def inputByte (s : State) (site a : Nat) : Byte :=
  if unstable s a then Config.freeByte s.draws site else s.mem.read a

/-- BYTE(j): byte `j` of the input of the command in progress, zero for `j ≥ L`; the address is
`BASE + j` as an exact integer (20_memory.md R63). -/
def byte (s : State) (site j : Nat) : Byte :=
  if j < s.lw.toNat then inputByte s site (s.base.toNat + j) else 0

/-- Little-endian assembly: the first byte supplies bits 7:0 (20_memory.md R60). -/
def leWord : List Byte → Word
  | [] => 0
  | b :: bs => b.setWidth 64 ||| (leWord bs <<< 8)

/-- `bytes_le(v, n)`: the `n` low bytes of `v`, least significant first (20_memory.md R60). -/
def bytesLe (v : Word) (n : Nat) : List Byte :=
  (List.range n).map fun k => (v >>> (8 * k)).setWidth 8

/-- READ32(off), zero-extended (20_memory.md R64). -/
def read32 (s : State) (site off : Nat) : Word :=
  leWord ((List.range 4).map fun k => byte s (site + k) (off + k))

/-- READ64(off) (20_memory.md R64). -/
def read64 (s : State) (site off : Nat) : Word :=
  leWord ((List.range 8).map fun k => byte s (site + k) (off + k))

/-- The source's `secret[k]` in the command in progress (10_state.md R43). -/
def secretW (s : State) : Fin 3 → Word
  | 0 => s.s0
  | 1 => s.s1
  | 2 => s.s2

/-- The register SECRETk (10_state.md R32). -/
def secretReg (s : State) : Fin 3 → Word
  | 0 => s.secret0
  | 1 => s.secret1
  | 2 => s.secret2

/-- The seed operand: `DEFAULT_SEED` when DS = 1, else SEED (30_encoding.md R84). -/
def seedOperand (ds : Bool) (s : State) : Word := if ds then defaultSeed else s.seed

/-- The secret operand: `DEFAULT_SECRET` when DK = 1, else SECRET0..2 (30_encoding.md R84). -/
def secretOperand (dk : Bool) (s : State) (k : Fin 3) : Word :=
  if dk then defaultSecret k else secretReg s k

/-- `L_OF`: LEN for DIGEST, 8 for FIXED64, 4 for FIXED32 (46_commands.md R182). -/
def lengthOf (k : Kind) (s : State) : Word :=
  match k with
  | .digest => s.len
  | .fixed64 => 8
  | .fixed32 => 4

end Sys2Proof.Machine
end

