-- ==== Sys2Proof/Machine/Ops.lean ====
section
/-! DEFINITION. The shared operations: raising an error and clearing the errors, the accept of a digest
command, a step that reads the input, the host's stores, register reads and writes, and reset. -/

namespace Sys2Proof.Machine

/-- The outcome of one step of this machine. -/
abbrev Out := Host.Outcome State Fault Refusal

/-- Raise an error (60_exceptions.md R201 to R204): set its STATUS bit, record in ERRINFO; a bus error
also aborts the command in progress. There is no trap entry (R206): no program counter is saved, no
mode changes, control goes nowhere. -/
def raise (c : ErrorCause) (s : State) : State :=
  match c with
  | .illegalCommand _ => { s with illegal := true, errinfo := errinfoAfter c s }
  | .writeWhileBusy _ => { s with wbusy := true, errinfo := errinfoAfter c s }
  | .busError _ =>
    { abortFlags s with buserr := true, errinfo := errinfoAfter c s, phase := .idle }

/-- CLEAR_STATUS (46_commands.md R186). There is no return from trap; this is how the host clears an
error (60_exceptions.md R207). -/
def clearStatus (s : State) : State :=
  { s with done := false, illegal := false, wbusy := false, buserr := false, errinfo := 0 }

/-- A word written to CMD that is a legal command: dropped with WriteWhileBusy while BUSY, else it has
its effect (46_commands.md R180; 60_exceptions.md R202, R205). -/
def command (effect : State → State) (s : State) : Out :=
  if s.busy then .next (raise (.writeWhileBusy 0) s) else .next (effect s)

/-- ACCEPT: latch the operands and start the sequencer (46_commands.md R181). The model's `racing` list
starts empty: it holds the stores of this command only (log entry 7). -/
def accept (k : Kind) (ds dk : Bool) (s : State) : State :=
  { acceptFlags s with
    kind := k
    lw := lengthOf k s
    base := s.src
    vw := s.value
    seedw := seedOperand ds s
    s0 := secretOperand dk s 0
    s1 := secretOperand dk s 1
    s2 := secretOperand dk s 2
    phase := .seed
    racing := [] }

/-- A core step that reads the input bytes at the offsets `offs`: all or nothing. If every byte is
admitted the step gives `result`; else it raises BusError with the lowest refused address and writes
nothing else (20_memory.md R68). -/
def readStep (offs : List Nat) (result : State) (s : State) : Out :=
  match refusedIn s offs with
  | some a => .next (raise (.busError a) s)
  | none => .next { result with draws := s.draws + 1 }

/-- The memory is in canonical form: addresses strictly rising, no entry that reads as an unlisted
address does. -/
def Memory.wf (m : Memory) : Bool :=
  decide (m.Pairwise fun x y => x.1 < y.1) && m.all fun x => x.2 != unlistedByte

/-- Store one byte, keeping the canonical form. -/
def Memory.write : Memory → Nat → Byte → Memory
  | [], a, v => if v = unlistedByte then [] else [(a, v)]
  | (k, w) :: m, a, v =>
    if a < k then if v = unlistedByte then (k, w) :: m else (a, v) :: (k, w) :: m
    else if a = k then if v = unlistedByte then m else (a, v) :: m
    else (k, w) :: Memory.write m a v

/-- Store the bytes `bs` at `a`, `a + 1`, … -/
def Memory.writeAll : Memory → Nat → List Byte → Memory
  | m, _, [] => m
  | m, a, b :: bs => Memory.writeAll (m.write a b) (a + 1) bs

/-- A host store to the input memory begins: until it completes, reads of the byte race with it
(20_memory.md R73; log entry 7). -/
def storeBegins (a : Nat) (s : State) : State := { s with inFlight := a :: s.inFlight }

/-- A host store to the input memory completes; while a command is in progress the byte stays racing
until the command ends (20_memory.md R73, 70_reset_and_hazards.md R234; log entry 7). -/
def storeCompletes (a : Nat) (v : Byte) (s : State) : State :=
  { s with
    mem := s.mem.write a v
    inFlight := s.inFlight.erase a
    racing := if s.busy then s.racing.insert a else s.racing }

/-- A host store outside the input memory's address space has no effect in the spec (log entry 5). -/
def inAddressSpace (a : Nat) (effect : State → State) (s : State) : Out :=
  if a < 2 ^ s.cfg.addrWidth then .next (effect s) else .fault (.noSuchAddress a)

/-- The register at an offset; offsets 0x60 to 0xF8 are reserved (10_state.md R22, R35). -/
def regAt (off : Offset) : Option Reg :=
  match off.toNat with
  | 0x00 => some .cmd
  | 0x08 => some .status
  | 0x10 => some .seed
  | 0x18 => some .len
  | 0x20 => some .src
  | 0x28 => some .value
  | 0x30 => some .secret0
  | 0x38 => some .secret1
  | 0x40 => some .secret2
  | 0x48 => some .digest
  | 0x50 => some .config
  | 0x58 => some .errinfo
  | _ => none

/-- The offset of a register (10_state.md R22). -/
def regOffset : Reg → Offset
  | .cmd => 0x00
  | .status => 0x08
  | .seed => 0x10
  | .len => 0x18
  | .src => 0x20
  | .value => 0x28
  | .secret0 => 0x30
  | .secret1 => 0x38
  | .secret2 => 0x40
  | .digest => 0x48
  | .config => 0x50
  | .errinfo => 0x58

/-- What CONFIG reads (10_state.md R31). -/
def configWord (c : Config) : Word :=
  flagAt (c.mixMode == .accumulate) 0 |||
  (BitVec.ofNat 64 c.addrWidth <<< 8) |||
  flagAt c.blockLoopInclusive 16 |||
  flagAt c.finalMulFollowsMode 17 |||
  (BitVec.ofNat 64 c.finalBSecret.val <<< 18) |||
  (BitVec.ofNat 64 c.tinyShifts.s0.val <<< 24) |||
  (BitVec.ofNat 64 c.tinyShifts.s1.val <<< 32) |||
  (BitVec.ofNat 64 c.tinyShifts.s2.val <<< 40)

/-- What a host read of a register returns (46_commands.md R187; 10_state.md R23 to R34). -/
def readReg (r : Reg) (s : State) : Word :=
  match r with
  | .cmd => 0
  | .status => statusWord s
  | .seed => s.seed
  | .len => s.len
  | .src => s.src
  | .value => s.value
  | .secret0 => s.secret0
  | .secret1 => s.secret1
  | .secret2 => s.secret2
  | .digest => s.digest
  | .config => configWord s.cfg
  | .errinfo => s.errinfo

/-- What a host read at an offset returns; a reserved offset reads 0 (10_state.md R35). -/
def readWindow (off : Offset) (s : State) : Word :=
  match regAt off with
  | some r => readReg r s
  | none => 0

/-- The read/write registers (10_state.md R22; 46_commands.md R188). -/
def writable : Reg → Bool
  | .seed | .len | .src | .value | .secret0 | .secret1 | .secret2 => true
  | .cmd | .status | .digest | .config | .errinfo => false

/-- The bits of SRC that exist, `[ADDR_WIDTH-1:0]` (10_state.md R30). -/
def maskAddr (c : Config) (v : Word) : Word := BitVec.ofNat 64 (v.toNat % 2 ^ c.addrWidth)

/-- `register(off) <- v` (46_commands.md R188); a register that is not read/write keeps its value. -/
def writeReg (r : Reg) (v : Word) (s : State) : State :=
  match r with
  | .seed => { s with seed := v }
  | .len => { s with len := v }
  | .src => { s with src := maskAddr s.cfg v }
  | .value => { s with value := v }
  | .secret0 => { s with secret0 := v }
  | .secret1 => { s with secret1 := v }
  | .secret2 => { s with secret2 := v }
  | .cmd | .status | .digest | .config | .errinfo => s

/-- A write of a word to CMD that is not a legal command: WriteWhileBusy while BUSY, else
IllegalCommand (46_commands.md R180; 60_exceptions.md R201, R202). -/
def illegalWord (w : Word) (s : State) : State :=
  if s.busy then raise (.writeWhileBusy 0) s else raise (.illegalCommand w) s

/-- A host write to a register other than CMD, or to a reserved offset (46_commands.md R188;
10_state.md R35). -/
def writeWindow (off : Offset) (v : Word) (s : State) : State :=
  match regAt off with
  | none => s
  | some r =>
    if writable r then
      if s.busy then raise (.writeWhileBusy off) s else writeReg r v s
    else s

/-- A host read: the value goes to the host, and the block does not change (46_commands.md R187). The
model notes the value in `reads` (log entry 4). -/
def readEvent (off : Offset) (s : State) : State :=
  { s with reads := (off, readWindow off s) :: s.reads }

/-- One round of POLL: read STATUS, and come round again after a core step while bit 0 reads 1
(30_encoding.md R90; log entry 13). -/
def pollEvent (s : State) : State :=
  let t := readEvent (regOffset .status) s
  if (statusWord s).getLsbD 0 then { t with schedule := .core :: .host .poll :: t.schedule } else t

/-- The reset input is asserted (70_reset_and_hazards.md R230, R231): every host-visible register and
the phase take their reset values; the configuration, the host's memory and the events still to come
are not the block's to change. The working registers take the values of `State.reset` (log entry 18). -/
def blockReset (s : State) : State :=
  { State.reset with
    cfg := s.cfg
    mem := s.mem
    inFlight := s.inFlight
    draws := s.draws
    schedule := s.schedule
    reads := s.reads }

/-- A register access at an offset: the spec defines whole accesses at multiples of 8 only
(30_encoding.md R81, I4). -/
def atOffset (off : Offset) (effect : State → State) (s : State) : Out :=
  if offsetWf off then .next (effect s) else .refused (.unspecifiedAccess off)

/-- The effect of a host event that issues no instruction. -/
def hostEvent (e : HostEvent) (s : State) : Out :=
  match e with
  | .write off w =>
    atOffset off (if regAt off = some .cmd then illegalWord w else writeWindow off w) s
  | .read off => atOffset off (readEvent off) s
  | .poll => .next (pollEvent s)
  | .storeBegin a => inAddressSpace a (storeBegins a) s
  | .store a v => inAddressSpace a (storeCompletes a v) s
  | .reset => .next (blockReset s)
  | .irregular _ off => .refused (.unspecifiedAccess off)
  | .duringReset off => .refused (.accessDuringReset off)

end Sys2Proof.Machine
end

