-- ==== Sys2Proof/Machine/BlockLoop.lean ====
section
/-! DEFINITION. The micro-operations BLOCK, FOLD, TAIL1, TAIL2 and LAST (43_block_loop.md). -/

namespace Sys2Proof.Machine

/-- The word `wk` of a block, `READ64(p + 8k)` (43_block_loop.md R140). -/
def blockWord (s : State) (k : Nat) : Word := read64 s (8 * k) (pos s + 8 * k)

/-- BLOCK (43_block_loop.md R140, R141). The count `I - 48` is computed on 64 bits: in a state no run reaches
(BLOCK with `I < 48`) it wraps modulo 2^64, where the rules never subtract below zero (R146); DESIGN CHOICE,
log entry 10. -/
def execBlock (s : State) : Out :=
  let m := s.cfg.mixMode
  readStep (window (pos s) 48)
    { s with
      seedw := mix m (blockWord s 0 ^^^ s.s0) (blockWord s 1 ^^^ s.seedw)
      see1 := mix m (blockWord s 2 ^^^ s.s1) (blockWord s 3 ^^^ s.see1)
      see2 := mix m (blockWord s 4 ^^^ s.s2) (blockWord s 5 ^^^ s.see2)
      i := s.i - 48
      phase := afterBlock s.cfg (s.i - 48) } s

/-- FOLD (43_block_loop.md R142). -/
def execFold (s : State) : Out :=
  .next { s with
    seedw := s.seedw ^^^ s.see1 ^^^ s.see2
    phase := afterFold s.i }

/-- TAIL1 (43_block_loop.md R143). -/
def execTail1 (s : State) : Out :=
  readStep (window (pos s) 16)
    { s with
      seedw := mix s.cfg.mixMode (read64 s 0 (pos s) ^^^ s.s2)
        (read64 s 8 (pos s + 8) ^^^ s.seedw ^^^ s.s1)
      phase := afterTail1 s.i } s

/-- TAIL2 (43_block_loop.md R144). -/
def execTail2 (s : State) : Out :=
  readStep (window (pos s + 16) 16)
    { s with
      seedw := mix s.cfg.mixMode (read64 s 0 (pos s + 16) ^^^ s.s2)
        (read64 s 8 (pos s + 24) ^^^ s.seedw)
      phase := .last } s

/-- LAST (43_block_loop.md R145). -/
def execLast (s : State) : Out :=
  let L := s.lw.toNat
  readStep (window (L - 16) 16)
    { s with
      a := read64 s 0 (L - 16)
      b := read64 s 8 (L - 8)
      phase := .final } s

end Sys2Proof.Machine
end

