-- ==== Sys2Proof/Machine/Commands.lean ====
section
/-! DEFINITION. The command words the host writes to CMD (46_commands.md). -/

namespace Sys2Proof.Machine

/-- DIGEST (46_commands.md R184). -/
def execDigest (ds dk : Bool) (s : State) : Out := command (accept .digest ds dk) s

/-- FIXED64 (46_commands.md R185). -/
def execFixed64 (ds dk : Bool) (s : State) : Out := command (accept .fixed64 ds dk) s

/-- FIXED32 (46_commands.md R185). -/
def execFixed32 (ds dk : Bool) (s : State) : Out := command (accept .fixed32 ds dk) s

/-- CLRSTAT (46_commands.md R186). -/
def execClrstat (s : State) : Out := command clearStatus s

end Sys2Proof.Machine
end

