-- ==== Sys2Proof/Machine/Finalizer.lean ====
section
/-! DEFINITION. The micro-operations FINAL and OUT (44_finalizer.md). -/

namespace Sys2Proof.Machine

/-- The operands `a, b` after the finalization multiply of `a1, b1` (44_finalizer.md R160): the product
halves, XORed into the operands in the audit variant only. -/
def finalPair (c : Config) (a1 b1 : Word) : Word × Word :=
  let p := mul128 a1 b1
  if c.finalMulFollowsMode && c.mixMode == .accumulate then (a1 ^^^ p.1, b1 ^^^ p.2) else p

/-- FINAL (44_finalizer.md R160). -/
def execFinal (s : State) : Out :=
  let p := finalPair s.cfg (s.a ^^^ s.s1) (s.b ^^^ s.seedw)
  .next { s with a := p.1, b := p.2, phase := .out }

/-- OUT (44_finalizer.md R162): DIGEST, DONE, BUSY and PHASE change in this one step. -/
def execOut (s : State) : Out :=
  .next { completeFlags s with
    digest := mix s.cfg.mixMode (s.a ^^^ s.s0 ^^^ s.lw) (s.b ^^^ secretW s s.cfg.finalBSecret)
    phase := .idle }

end Sys2Proof.Machine
end

