-- ==== Sys2Proof/Machine/FixedWidth.lean ====
section
/-! DEFINITION. The micro-operations FIX8 and FIX4 (45_fixed_width.md). -/

namespace Sys2Proof.Machine

/-- A word with its 32-bit halves swapped, `(v[31:0] << 32) | v[63:32]` (45_fixed_width.md R170). -/
def swapHalves (v : Word) : Word := ((v.setWidth 32).setWidth 64 <<< 32) ||| (v >>> 32)

/-- `(w << 32) | w` for `w = zext_64(v[31:0])` (45_fixed_width.md R171). -/
def doubleLow (v : Word) : Word :=
  ((v.setWidth 32).setWidth 64 <<< 32) ||| (v.setWidth 32).setWidth 64

/-- FIX8 (45_fixed_width.md R170). -/
def execFix8 (s : State) : Out := .next { s with a := swapHalves s.vw, b := s.vw, phase := .final }

/-- FIX4 (45_fixed_width.md R171). -/
def execFix4 (s : State) : Out :=
  .next { s with a := doubleLow s.vw, b := doubleLow s.vw, phase := .final }

end Sys2Proof.Machine
end

