-- ==== Sys2Proof/Machine/SeedDispatch.lean ====
section
/-! DEFINITION. The micro-operations SEED, DISPATCH, EMPTY, TINY and SHORT (42_seed_dispatch.md). -/

namespace Sys2Proof.Machine

/-- SEED (42_seed_dispatch.md R120). -/
def execSeed (s : State) : Out :=
  .next { s with
    seedw := s.seedw ^^^ mix s.cfg.mixMode (s.seedw ^^^ s.s0) s.s1 ^^^ s.lw
    phase := afterSeed s.kind }

/-- DISPATCH (42_seed_dispatch.md R122). -/
def execDispatch (s : State) : Out :=
  if s.lw.toNat = 0 then .next { s with phase := .empty }
  else if s.lw.toNat ≤ 3 then .next { s with phase := .tiny }
  else if s.lw.toNat ≤ 16 then .next { s with phase := .short }
  else if s.lw.toNat ≤ 48 then .next { s with i := s.lw, phase := .tail1 }
  else .next { s with i := s.lw, see1 := s.seedw, see2 := s.seedw, phase := .block }

/-- EMPTY (42_seed_dispatch.md R124). -/
def execEmpty (s : State) : Out := .next { s with a := 0, b := 0, phase := .final }

/-- The word TINY packs from the first, middle and last byte (42_seed_dispatch.md R126). -/
def tinyPack (t : TinyShifts) (f m l : Byte) : Word :=
  (f.setWidth 64 <<< t.s0.val) ||| (m.setWidth 64 <<< t.s1.val) ||| (l.setWidth 64 <<< t.s2.val)

/-- TINY (42_seed_dispatch.md R126). -/
def execTiny (s : State) : Out :=
  let L := s.lw.toNat
  readStep (tinyReads L)
    { s with
      a := tinyPack s.cfg.tinyShifts (byte s 0 0) (byte s 1 (L >>> 1)) (byte s 2 (L - 1))
      b := 0
      phase := .final } s

/-- SHORT (42_seed_dispatch.md R129). -/
def execShort (s : State) : Out :=
  let L := s.lw.toNat
  readStep (shortReads L)
    { s with
      a := (read32 s 0 0 <<< 32) ||| read32 s 4 (L - 4)
      b := (read32 s 8 (delta L) <<< 32) ||| read32 s 12 (L - 4 - delta L)
      phase := .final } s

end Sys2Proof.Machine
end

