-- ==== Sys2Proof/Machine/Dispatch.lean ====
section
/-! DEFINITION. The meaning of every instruction, one arm each. -/

namespace Sys2Proof.Machine

def exec (i : Instr) (s : State) : Host.Outcome State Fault Refusal :=
  match i with
  | .digest ds dk => Sys2Proof.Machine.execDigest ds dk s
  | .fixed64 ds dk => Sys2Proof.Machine.execFixed64 ds dk s
  | .fixed32 ds dk => Sys2Proof.Machine.execFixed32 ds dk s
  | .clrstat => Sys2Proof.Machine.execClrstat s
  | .seed => Sys2Proof.Machine.execSeed s
  | .dispatch => Sys2Proof.Machine.execDispatch s
  | .empty => Sys2Proof.Machine.execEmpty s
  | .tiny => Sys2Proof.Machine.execTiny s
  | .short => Sys2Proof.Machine.execShort s
  | .block => Sys2Proof.Machine.execBlock s
  | .fold => Sys2Proof.Machine.execFold s
  | .tail1 => Sys2Proof.Machine.execTail1 s
  | .tail2 => Sys2Proof.Machine.execTail2 s
  | .last => Sys2Proof.Machine.execLast s
  | .final => Sys2Proof.Machine.execFinal s
  | .out => Sys2Proof.Machine.execOut s
  | .fix8 => Sys2Proof.Machine.execFix8 s
  | .fix4 => Sys2Proof.Machine.execFix4 s

end Sys2Proof.Machine
end

