-- ==== Sys2Proof/Machine/Fetch.lean ====
section
/-! DEFINITION. Whose turn it is, and which instruction the turn issues. The block fetches no
instructions from memory (20_memory.md R78): a micro-operation is issued by the phase register
(10_state.md R40), a command by the host's write to CMD (46_commands.md R180). -/

namespace Sys2Proof.Machine

/-- The next turn: the schedule's first, and the core's once the schedule is used up (00_scope.md R10,
70_reset_and_hazards.md R240; log entry 3). -/
def nextTurn (s : State) : Turn :=
  match s.schedule with
  | [] => .core
  | t :: _ => t

/-- The state with that turn taken off the schedule. -/
def advance (s : State) : State := { s with schedule := s.schedule.tail }

/-- The code the next turn issues: on a core turn the phase code (10_state.md R40), on a host turn the
word written to CMD (10_state.md R23). -/
def fetchCode (s : State) : Option Code :=
  match nextTurn s with
  | .core => some (.phase s.phase.code)
  | .host (.write off w) => if regAt off = some .cmd then some (.command w) else none
  | .host _ => none

/-- The instruction the next turn issues, if its code decodes (30_encoding.md R80, R85, R86). -/
def fetch (s : State) : Option Instr :=
  match fetchCode s with
  | none => none
  | some c =>
    match decode c with
    | .ok i => some i
    | .error _ => none

/-- A turn that issues no instruction: a host event, or a core turn at IDLE, where the core has no
step and nothing changes (10_state.md R40). -/
def otherTurn (t : Turn) (s : State) : Out :=
  match t with
  | .core => .next s
  | .host e => hostEvent e s

/-- The state whose next turn issues the code: a phase code stands in the phase register, with BUSY as
10_state.md R25 has it, and the core's turn comes next; a command word is the host's next write to CMD
(log entry 11). -/
def issueCode (c : Code) (s : State) : State :=
  match c with
  | .phase k =>
    match phaseOfCode k with
    | some p => { s with phase := p, busy := p != .idle, schedule := .core :: s.schedule }
    | none => s
  | .command w => { s with schedule := .host (.write (regOffset .cmd) w) :: s.schedule }

end Sys2Proof.Machine
end

