-- ==== Sys2Proof/Machine/Step.lean ====
section
/-! DEFINITION. One step of the whole machine: the next turn of the interleaving (00_scope.md R10). -/

namespace Sys2Proof.Machine

/-- One step: the turn is taken off the schedule; if it issues an instruction, that is executed, else
it is a host event or an idle core turn. -/
def step (s : State) : Host.Outcome State Fault Refusal :=
  match fetch s with
  | some i => exec i (advance s)
  | none => otherTurn (nextTurn s) (advance s)

/-- The state with the instruction placed where the next step issues it from (log entry 11). -/
def State.withFetchWord (s : State) (nbits w : Nat) : State :=
  match tableCode nbits w with
  | some c => issueCode c s
  | none => s

end Sys2Proof.Machine
end

