-- ==== Sys2Proof/Machine/HostProgram.lean ====
section
/-! DEFINITION. The host program lines and pseudo-instructions of 30_encoding.md R89 and R90, expanded
to host events. -/

namespace Sys2Proof.Machine

/-- `WR <REG>, <imm64>` (30_encoding.md R89). -/
def writeEvent (r : Reg) (v : Word) : HostEvent := .write (regOffset r) v

/-- `CMD <OPNAME>[.DS][.DK]`: a write of the command word to CMD (30_encoding.md R89, R91). A
micro-operation is not host-encodable and gives nothing. -/
def commandEvents (i : Instr) : List HostEvent :=
  match encode i with
  | .command w => [writeEvent .cmd w]
  | .phase _ => []

/-- The events a line stands for (30_encoding.md R89, R90). -/
def expandLine : HostLine → List HostEvent
  | .wr r v => [writeEvent r v]
  | .rd r => [.read (regOffset r)]
  | .cmd i => commandEvents i
  | .poll => [.poll]
  | .hash src len =>
    [writeEvent .src src, writeEvent .len len] ++ commandEvents (.digest true true) ++
      [.poll, .read (regOffset .digest)]
  | .hashs src len seed =>
    [writeEvent .src src, writeEvent .len len, writeEvent .seed seed] ++
      commandEvents (.digest false true) ++ [.poll, .read (regOffset .digest)]
  | .hashf64 v =>
    [writeEvent .value v] ++ commandEvents (.fixed64 true true) ++
      [.poll, .read (regOffset .digest)]
  | .hashf32 v =>
    [writeEvent .value v] ++ commandEvents (.fixed32 true true) ++
      [.poll, .read (regOffset .digest)]

/-- The host's turns that a program stands for. -/
def hostProgram (p : List HostLine) : List Turn := (p.flatMap expandLine).map Turn.host

end Sys2Proof.Machine
end

