-- ==== Sys2Proof/Machine/Rapidhash.lean ====
section
/-! DEFINITION. RAPIDHASH in one piece (46_commands.md R189), over a buffer and not over a machine state,
and the step counts of 70_reset_and_hazards.md R240. Statements compare the machine with these. -/

namespace Sys2Proof.Machine

/-- `buf[j]`, zero at and past `L` (20_memory.md R63). -/
def bufByte (buf : Nat → Byte) (L j : Nat) : Byte := if j < L then buf j else 0

/-- READ32 over a buffer (20_memory.md R64). -/
def bufRead32 (buf : Nat → Byte) (L off : Nat) : Word :=
  leWord ((List.range 4).map fun k => bufByte buf L (off + k))

/-- READ64 over a buffer (20_memory.md R64). -/
def bufRead64 (buf : Nat → Byte) (L off : Nat) : Word :=
  leWord ((List.range 8).map fun k => bufByte buf L (off + k))

/-- The accumulator set `seed, see1, see2` (10_state.md R44). -/
structure Accs where
  seed : Word
  see1 : Word
  see2 : Word
deriving DecidableEq, Repr

/-- One pass of the block loop at `p = L - i` (46_commands.md R189). -/
def hashBlock (c : Config) (buf : Nat → Byte) (L : Nat) (sec : Fin 3 → Word) (p : Nat) (x : Accs) :
    Accs where
  seed := mix c.mixMode (bufRead64 buf L p ^^^ sec 0) (bufRead64 buf L (p + 8) ^^^ x.seed)
  see1 := mix c.mixMode (bufRead64 buf L (p + 16) ^^^ sec 1) (bufRead64 buf L (p + 24) ^^^ x.see1)
  see2 := mix c.mixMode (bufRead64 buf L (p + 32) ^^^ sec 2) (bufRead64 buf L (p + 40) ^^^ x.see2)

/-- The block loop, "repeat … until not CONTINUE(i)" (46_commands.md R189), with the accumulators and
the remaining count at its exit. The first argument bounds the number of passes. -/
def hashLoop (c : Config) (buf : Nat → Byte) (L : Nat) (sec : Fin 3 → Word) :
    Nat → Accs → Nat → Accs × Nat
  | 0, x, i => (x, i)
  | fuel + 1, x, i =>
    let x' := hashBlock c buf L sec (L - i) x
    if continues c (BitVec.ofNat 64 (i - 48)) then hashLoop c buf L sec fuel x' (i - 48)
    else (x', i - 48)

/-- The working seed and the remaining count when the tail begins (46_commands.md R189). -/
def hashFolded (c : Config) (buf : Nat → Byte) (L : Nat) (sec : Fin 3 → Word) (seed : Word) :
    Word × Nat :=
  if 48 < L then
    let r := hashLoop c buf L sec L ⟨seed, seed, seed⟩ L
    (r.1.seed ^^^ r.1.see1 ^^^ r.1.see2, r.2)
  else (seed, L)

/-- The tail: one mix when `i > 16`, a second when `i > 32` (46_commands.md R189). -/
def hashTail (c : Config) (buf : Nat → Byte) (L : Nat) (sec : Fin 3 → Word) (seed : Word) (i : Nat) :
    Word :=
  if 16 < i then
    let p := L - i
    let seed1 := mix c.mixMode (bufRead64 buf L p ^^^ sec 2) (bufRead64 buf L (p + 8) ^^^ seed ^^^ sec 1)
    if 32 < i then
      mix c.mixMode (bufRead64 buf L (p + 16) ^^^ sec 2) (bufRead64 buf L (p + 24) ^^^ seed1)
    else seed1
  else seed

/-- The final operands and the working seed on each length branch, from the derived seed
(46_commands.md R189). -/
def hashOperands (c : Config) (buf : Nat → Byte) (L : Nat) (sec : Fin 3 → Word) (seed : Word) :
    Word × Word × Word :=
  if L = 0 then (0, 0, seed)
  else if L ≤ 3 then
    (tinyPack c.tinyShifts (buf 0) (buf (L >>> 1)) (buf (L - 1)), 0, seed)
  else if L ≤ 16 then
    ((bufRead32 buf L 0 <<< 32) ||| bufRead32 buf L (L - 4),
      (bufRead32 buf L (delta L) <<< 32) ||| bufRead32 buf L (L - 4 - delta L), seed)
  else
    let r := hashFolded c buf L sec seed
    (bufRead64 buf L (L - 16), bufRead64 buf L (L - 8), hashTail c buf L sec r.1 r.2)

/-- The finalizer: the finalization multiply and the last mix (46_commands.md R189). -/
def hashFinish (c : Config) (L : Word) (sec : Fin 3 → Word) (a b seed : Word) : Word :=
  let p := finalPair c (a ^^^ sec 1) (b ^^^ seed)
  mix c.mixMode (p.1 ^^^ sec 0 ^^^ L) (p.2 ^^^ sec c.finalBSecret)

/-- `RAPIDHASH(buf, L, seed, secret)` (46_commands.md R189). -/
def rapidhash (c : Config) (buf : Nat → Byte) (L seed : Word) (sec : Fin 3 → Word) : Word :=
  let seed0 := seed ^^^ mix c.mixMode (seed ^^^ sec 0) (sec 1) ^^^ L
  let r := hashOperands c buf L.toNat sec seed0
  hashFinish c L sec r.1 r.2.1 r.2.2

/-- The number of BLOCK steps on the LONG path (43_block_loop.md R141). -/
def blockCount (c : Config) (L : Nat) : Nat :=
  if c.blockLoopInclusive then L / 48 else (L - 49) / 48 + 1

/-- The number of tail steps for an exit count `i` (70_reset_and_hazards.md R240). -/
def tailSteps (i : Nat) : Nat := if i ≤ 16 then 0 else if i ≤ 32 then 1 else 2

/-- The number of core steps from accept to the end of a command that does not abort
(70_reset_and_hazards.md R240). -/
def coreSteps (c : Config) (k : Kind) (L : Nat) : Nat :=
  match k with
  | .fixed64 | .fixed32 => 4
  | .digest =>
    if L ≤ 16 then 5
    else if L ≤ 32 then 6
    else if L ≤ 48 then 7
    else blockCount c L + tailSteps (L - 48 * blockCount c L) + 6

end Sys2Proof.Machine
end

