-- ==== Sys2Proof/Safety.lean ====
section
/-! DEFINITION. What a good state is, in the terms the statements use: the invariant every step keeps,
when a command's input is readable and stable, and what it means that a command ends. -/

namespace Sys2Proof.Machine

/-- What the phase says of KIND, LW and I: the entry conditions of the micro-operations
(42_seed_dispatch.md R122, 43_block_loop.md R140 to R146, 45_fixed_width.md R170, R171). -/
def phaseFacts (s : State) : Phase → Prop
  | .idle | .seed | .final | .out => True
  | .dispatch => s.kind = .digest
  | .empty => s.kind = .digest ∧ s.lw.toNat = 0
  | .tiny => s.kind = .digest ∧ 1 ≤ s.lw.toNat ∧ s.lw.toNat ≤ 3
  | .short => s.kind = .digest ∧ 4 ≤ s.lw.toNat ∧ s.lw.toNat ≤ 16
  | .block =>
    s.kind = .digest ∧ 48 < s.lw.toNat ∧ s.i.toNat ≤ s.lw.toNat ∧ continues s.cfg s.i = true
  | .fold =>
    s.kind = .digest ∧ 48 < s.lw.toNat ∧ s.i.toNat ≤ s.lw.toNat ∧ continues s.cfg s.i = false
  | .tail1 =>
    s.kind = .digest ∧ 16 < s.i.toNat ∧ s.i.toNat ≤ 48 ∧ s.i.toNat ≤ s.lw.toNat
  | .tail2 =>
    s.kind = .digest ∧ 32 < s.i.toNat ∧ s.i.toNat ≤ 48 ∧ s.i.toNat ≤ s.lw.toNat
  | .last => s.kind = .digest ∧ 16 < s.lw.toNat
  | .fix8 => s.kind = .fixed64
  | .fix4 => s.kind = .fixed32

/-- The invariant of the machine: it holds at reset and every step keeps it. -/
structure Inv (s : State) : Prop where
  /-- The configuration is legal (00_scope.md R5). -/
  cfg_wf : s.cfg.wf = true
  /-- STATUS.BUSY = 1 exactly when `phase ≠ IDLE` (10_state.md R25). -/
  busy_iff : s.busy = true ↔ s.phase ≠ .idle
  /-- DONE is 0 from the accept of a digest command until its OUT step (10_state.md R26). -/
  done_idle : s.done = true → s.phase = .idle
  /-- SRC has `ADDR_WIDTH` bits (10_state.md R30). -/
  src_width : s.src.toNat < 2 ^ s.cfg.addrWidth
  /-- BASE has `ADDR_WIDTH` bits (10_state.md R41). -/
  base_width : s.base.toNat < 2 ^ s.cfg.addrWidth
  /-- ERRINFO is written only with an error bit set, and cleared with them (10_state.md R34). -/
  errinfo_clear : noError s = true → s.errinfo = 0
  /-- While a command is in progress `L` fits its kind (46_commands.md R182). -/
  len_kind : s.phase ≠ .idle →
    (s.kind = .fixed64 → s.lw = 8) ∧ (s.kind = .fixed32 → s.lw = 4)
  /-- The phase's entry conditions. -/
  phase_facts : phaseFacts s s.phase
  /-- The input memory is in canonical form. -/
  mem_wf : s.mem.wf = true
  /-- The input memory has `2^ADDR_WIDTH` bytes (20_memory.md R61). -/
  mem_range : ∀ x ∈ s.mem, x.1 < 2 ^ s.cfg.addrWidth

/-- Every byte of the input of the command in progress that lies in `offs` is admitted
(20_memory.md R61, R68). -/
def Readable (s : State) (offs : List Nat) : Prop :=
  ∀ j ∈ offs, j < s.lw.toNat → admitted s.cfg (s.base.toNat + j) = true

/-- `a` is the lowest refused address of the read set `offs` (20_memory.md R68). -/
def LowestRefused (s : State) (offs : List Nat) (a : Nat) : Prop :=
  (∃ j ∈ offs, j < s.lw.toNat ∧ a = s.base.toNat + j ∧ admitted s.cfg a = false) ∧
    ∀ j ∈ offs, j < s.lw.toNat → admitted s.cfg (s.base.toNat + j) = false → a ≤ s.base.toNat + j

/-- A turn that begins or completes a host store to address `a`. -/
def storesTo (a : Nat) : Turn → Bool
  | .core => false
  | .host e =>
    match e with
    | .storeBegin b | .store b _ => b == a
    | .write _ _ | .read _ | .poll | .reset | .irregular _ _ | .duringReset _ => false

/-- The host does not race with reads of these addresses and they have no read side effects: the
host's duties of 20_memory.md R69, R73 and 70_reset_and_hazards.md R234, for every turn of the schedule. -/
def Quiet (s : State) (lo n : Nat) : Prop :=
  ∀ j, j < n → s.inFlight.elem (lo + j) = false ∧ s.cfg.volatile.any (rangeHas · (lo + j)) = false ∧
    s.schedule.any (storesTo (lo + j)) = false

/-- A turn that may come at any time during a command without ending it or stopping the machine: the
core's, or a host event the spec gives an effect for, reset aside. Register reads and writes, POLL rounds and
stores to the input memory's address space are such turns. -/
def lawful (c : Config) : Turn → Bool
  | .core => true
  | .host e => e.wf c && e != .reset

/-- How many of the first `n` turns from `s` are the core's. -/
def coreTurns : Nat → State → Nat
  | 0, _ => 0
  | n + 1, s =>
    (if nextTurn s = .core then 1 else 0) +
      match step s with
      | .next t => coreTurns n t
      | .fault _ => 0
      | .refused _ => 0

/-- `n` turns from `s` end the command in progress at `t`: the block is idle at `t`, `k` of the turns are
the core's, and at every state strictly between it is busy with DIGEST as it was. The turns are those of the
schedule, then the core's (log entry 3). -/
structure CommandEnds (s : State) (n k : Nat) (t : State) : Prop where
  /-- The run of `n` turns gives `t`. -/
  run : Sys2Proof.core.run n s = .next t
  /-- `k` of them are core steps. -/
  cores : coreTurns n s = k
  /-- The command has ended at `t`. -/
  idle : t.phase = .idle
  /-- The command has ended at `t`. -/
  notBusy : t.busy = false
  /-- It had not ended before. -/
  before : ∀ m u, 0 < m → m < n → Sys2Proof.core.run m s = .next u →
    u.busy = true ∧ u.digest = s.digest

end Sys2Proof.Machine
end

