-- ==== Sys2Proof/Certificates/Slice0/Obligations.lean ====
section
/-! DEFINITION. The statements for the provers. Each docstring names the rule of spec/ it formalises, or
says which of the model's own choices it is about. -/

open Sys2Proof Sys2Proof.Machine

/-! ### Encoding -/

/-- A code decodes to an instruction exactly when it is that instruction's code (30_encoding.md sections
3 and 4): no bit of an encoding is dropped, and no second code stands for an instruction. -/
def Obligations.DecodeIsInverseOfEncode : Prop :=
  ∀ (c : Code) (i : Instr), decode c = .ok i ↔ encode i = c

/-- The legal command words and the command each stands for are the thirteen of 30_encoding.md R91. -/
def Obligations.LegalCommandWordsAreTheThirteen : Prop :=
  ∀ (w : Word) (i : Instr), decodeCommand w = .ok i ↔ (w, i) ∈
    ([(0x01, .digest false false), (0x11, .digest true false), (0x21, .digest false true),
      (0x31, .digest true true), (0x02, .fixed64 false false), (0x12, .fixed64 true false),
      (0x22, .fixed64 false true), (0x32, .fixed64 true true), (0x03, .fixed32 false false),
      (0x13, .fixed32 true false), (0x23, .fixed32 false true), (0x33, .fixed32 true true),
      (0x04, .clrstat)] : List (Word × Instr))

/-- A few words and phase codes decode to the instruction they stand for, or are rejected by name
(30_encoding.md R83, R85, R86, R87). -/
def Obligations.SampleCodesDecode : Prop :=
  decode (.command 0x31) = .ok (.digest true true) ∧
  decode (.command 0x12) = .ok (.fixed64 true false) ∧
  decode (.command 0x23) = .ok (.fixed32 false true) ∧
  decode (.command 0x04) = .ok .clrstat ∧
  decode (.command 0x14) = .error .clrstatOperand ∧
  decode (.command 0x41) = .error .reservedBits ∧
  decode (.command 0x05) = .error (.reservedOp 5) ∧
  decode (.phase 1) = .ok .seed ∧
  decode (.phase 6) = .ok .block ∧
  decode (.phase 12) = .ok .out ∧
  decode (.phase 0) = .error .idle ∧
  decode (.phase 15) = .error .reservedPhase

/-! ### Steps -/

/-- A step runs the instruction its turn issues: on a core turn the micro-operation of the phase register
(10_state.md R40), on a host turn that writes CMD the command the word decodes to (46_commands.md R180).
Around it the step takes the turn off the schedule (log entry 3: the model's choice) and does nothing
else. -/
def Obligations.StepRunsTheIssuedInstruction : Prop :=
  ∀ (s : State) (i : Instr),
    (((s.schedule = [] ∨ s.schedule.head? = some .core) ∧ decode (.phase s.phase.code) = .ok i) ∨
      ∃ w, s.schedule.head? = some (.host (.write 0x00 w)) ∧ decode (.command w) = .ok i) →
    step s = exec i { s with schedule := s.schedule.tail }

/-- At IDLE the core has no step: a core turn changes nothing but the schedule (10_state.md R40; that the
turn passes instead of stopping the machine is the model's choice, log entry 3). -/
def Obligations.IdleCoreTurnChangesNothing : Prop :=
  ∀ s : State, (s.schedule = [] ∨ s.schedule.head? = some .core) → s.phase = .idle →
    step s = .next { s with schedule := s.schedule.tail }

/-- An instruction placed with `withFetchWord` is the one the next step runs (the model's own
convention, log entry 11): a command in the state as it was, a micro-operation with its phase in the phase
register and BUSY set. -/
def Obligations.PlacedInstructionRunsNext : Prop :=
  ∀ (s : State) (nbits w : Nat) (i : Instr), decodeTableWord nbits w = some i →
    (8 < nbits → step (s.withFetchWord nbits w) = exec i s) ∧
    (nbits ≤ 8 → ∃ p : Phase, p.code.toNat = w ∧
      step (s.withFetchWord nbits w) = exec i { s with phase := p, busy := true })

/-! ### Commands and register accesses -/

/-- ACCEPT: a digest command written while idle latches its operands and starts the sequencer, whatever
the error bits are (46_commands.md R181, R182, R183). The list `racing`, empty at accept, is the model's own (log entry 7). -/
def Obligations.DigestCommandsLatchTheirOperands : Prop :=
  ∀ (s : State) (ds dk : Bool), s.busy = false →
    exec (.digest ds dk) s = .next { s with
      kind := .digest, lw := s.len, base := s.src, vw := s.value
      seedw := if ds then 0xbdd89aa982704029 else s.seed
      s0 := if dk then 0x2d358dccaa6c78a5 else s.secret0
      s1 := if dk then 0x8bb84b93962eacc9 else s.secret1
      s2 := if dk then 0x4b33a62ed433d4a3 else s.secret2
      busy := true, done := false, phase := .seed, racing := [] } ∧
    exec (.fixed64 ds dk) s = .next { s with
      kind := .fixed64, lw := 8, base := s.src, vw := s.value
      seedw := if ds then 0xbdd89aa982704029 else s.seed
      s0 := if dk then 0x2d358dccaa6c78a5 else s.secret0
      s1 := if dk then 0x8bb84b93962eacc9 else s.secret1
      s2 := if dk then 0x4b33a62ed433d4a3 else s.secret2
      busy := true, done := false, phase := .seed, racing := [] } ∧
    exec (.fixed32 ds dk) s = .next { s with
      kind := .fixed32, lw := 4, base := s.src, vw := s.value
      seedw := if ds then 0xbdd89aa982704029 else s.seed
      s0 := if dk then 0x2d358dccaa6c78a5 else s.secret0
      s1 := if dk then 0x8bb84b93962eacc9 else s.secret1
      s2 := if dk then 0x4b33a62ed433d4a3 else s.secret2
      busy := true, done := false, phase := .seed, racing := [] }

/-- CLRSTAT while idle clears DONE, the error bits and ERRINFO and nothing else (46_commands.md R186). -/
def Obligations.ClrstatClearsTheStatus : Prop :=
  ∀ s : State, s.busy = false →
    exec .clrstat s = .next { s with
      done := false, illegal := false, wbusy := false, buserr := false, errinfo := 0 }

/-- While BUSY a host write to CMD, legal or not, or to a read/write register is dropped: WBUSY is set,
ERRINFO records the offset if it is the first error, and nothing else changes (60_exceptions.md R202, R204);
the meaning of each command says the same. -/
def Obligations.WritesWhileBusyAreDropped : Prop :=
  ∀ s : State, s.busy = true →
    (∀ (off : Offset) (v : Word),
      off ∈ ([0x00, 0x10, 0x18, 0x20, 0x28, 0x30, 0x38, 0x40] : List Offset) →
      s.schedule.head? = some (.host (.write off v)) →
      step s = .next { s with
        wbusy := true
        errinfo := if s.illegal || s.wbusy || s.buserr then s.errinfo else off.setWidth 64
        schedule := s.schedule.tail }) ∧
    ∀ i : Instr, i.isCommand = true →
      exec i s = .next { s with
        wbusy := true
        errinfo := if s.illegal || s.wbusy || s.buserr then s.errinfo else 0 }

/-- An illegal word written to CMD while idle sets ILLEGAL, is recorded in ERRINFO if it is the first
error, and changes nothing else (60_exceptions.md R201, R204). -/
def Obligations.IllegalWordsAreReported : Prop :=
  ∀ (s : State) (w : Word), s.busy = false →
    w ∉ ([0x01, 0x11, 0x21, 0x31, 0x02, 0x12, 0x22, 0x32, 0x03, 0x13, 0x23, 0x33, 0x04] :
      List Word) →
    s.schedule.head? = some (.host (.write 0x00 w)) →
    step s = .next { s with
      illegal := true
      errinfo := if s.illegal || s.wbusy || s.buserr then s.errinfo else w
      schedule := s.schedule.tail }

/-- Host writes to the registers (46_commands.md R188): a read/write register takes the value while idle
(SRC its low ADDR_WIDTH bits) and drops it with WriteWhileBusy while busy; a write to STATUS, DIGEST, CONFIG,
ERRINFO or a reserved offset is ignored, busy or not. -/
def Obligations.RegisterWritesTakeEffectOrAreIgnored : Prop :=
  ∀ (s : State) (off : Offset) (v : Word), s.schedule.head? = some (.host (.write off v)) →
    (s.busy = false →
      (off = 0x10 → step s = .next { s with seed := v, schedule := s.schedule.tail }) ∧
      (off = 0x18 → step s = .next { s with len := v, schedule := s.schedule.tail }) ∧
      (off = 0x20 → step s = .next { s with
        src := BitVec.ofNat 64 (v.toNat % 2 ^ s.cfg.addrWidth), schedule := s.schedule.tail }) ∧
      (off = 0x28 → step s = .next { s with value := v, schedule := s.schedule.tail }) ∧
      (off = 0x30 → step s = .next { s with secret0 := v, schedule := s.schedule.tail }) ∧
      (off = 0x38 → step s = .next { s with secret1 := v, schedule := s.schedule.tail }) ∧
      (off = 0x40 → step s = .next { s with secret2 := v, schedule := s.schedule.tail })) ∧
    (s.busy = true → off ∈ ([0x10, 0x18, 0x20, 0x28, 0x30, 0x38, 0x40] : List Offset) →
      step s = .next { s with
        wbusy := true
        errinfo := if s.illegal || s.wbusy || s.buserr then s.errinfo else off.setWidth 64
        schedule := s.schedule.tail }) ∧
    (off ∈ ([0x08, 0x48, 0x50, 0x58] : List Offset) ∨ (0x60 ≤ off.toNat ∧ off.toNat % 8 = 0) →
      step s = .next { s with schedule := s.schedule.tail })

/-- Host reads (46_commands.md R187; 10_state.md R22, R23, R35): the host gets the register's value (noted
in `reads`, log entry 4), busy or not, and nothing else changes. -/
def Obligations.RegisterReadsChangeNothing : Prop :=
  ∀ (s : State) (off : Offset), off.toNat % 8 = 0 → s.schedule.head? = some (.host (.read off)) →
    ∃ v : Word, step s = .next { s with reads := (off, v) :: s.reads, schedule := s.schedule.tail } ∧
      (off = 0x00 → v = 0) ∧ (off = 0x08 → v = statusWord s) ∧ (off = 0x10 → v = s.seed) ∧
      (off = 0x18 → v = s.len) ∧ (off = 0x20 → v = s.src) ∧ (off = 0x28 → v = s.value) ∧
      (off = 0x30 → v = s.secret0) ∧ (off = 0x38 → v = s.secret1) ∧ (off = 0x40 → v = s.secret2) ∧
      (off = 0x48 → v = s.digest) ∧ (off = 0x50 → v = configWord s.cfg) ∧
      (off = 0x58 → v = s.errinfo) ∧ (0x60 ≤ off.toNat → v = 0)

/-- The fields of STATUS (10_state.md R24, R28). -/
def Obligations.StatusReadsItsFields : Prop :=
  ∀ s : State,
    (statusWord s).getLsbD 0 = s.busy ∧ (statusWord s).getLsbD 1 = s.done ∧
    (statusWord s).getLsbD 2 = s.illegal ∧ (statusWord s).getLsbD 3 = s.wbusy ∧
    (statusWord s).getLsbD 4 = s.buserr ∧ (statusWord s).extractLsb' 5 3 = 0 ∧
    (statusWord s).extractLsb' 8 4 = s.phase.code ∧ (statusWord s).extractLsb' 12 52 = 0

/-- The fields of CONFIG, and what the default build reads (10_state.md R31). -/
def Obligations.ConfigReadsItsFields : Prop :=
  (∀ c : Config, c.wf = true →
    (configWord c).getLsbD 0 = (c.mixMode == .accumulate) ∧
    (configWord c).extractLsb' 1 7 = 0 ∧
    ((configWord c).extractLsb' 8 8).toNat = c.addrWidth ∧
    (configWord c).getLsbD 16 = c.blockLoopInclusive ∧
    (configWord c).getLsbD 17 = c.finalMulFollowsMode ∧
    ((configWord c).extractLsb' 18 2).toNat = c.finalBSecret.val ∧
    (configWord c).extractLsb' 20 4 = 0 ∧
    ((configWord c).extractLsb' 24 6).toNat = c.tinyShifts.s0.val ∧
    (configWord c).extractLsb' 30 2 = 0 ∧
    ((configWord c).extractLsb' 32 6).toNat = c.tinyShifts.s1.val ∧
    (configWord c).extractLsb' 38 2 = 0 ∧
    ((configWord c).extractLsb' 40 6).toNat = c.tinyShifts.s2.val ∧
    (configWord c).extractLsb' 46 18 = 0) ∧
  configWord Config.default = 0x0000100800084000

/-- The bits of a value written to SRC that SRC keeps are those below ADDR_WIDTH (10_state.md R30). -/
def Obligations.SrcKeepsItsAddressBits : Prop :=
  ∀ (c : Config) (v : Word) (k : Nat),
    (maskAddr c v).getLsbD k = (decide (k < c.addrWidth) && v.getLsbD k)

/-- A register access at an offset that is no multiple of 8, an access of another width, and an access
that overlaps reset are refused by name (30_encoding.md R81; 93_implementation_defined.md I4, I5). -/
def Obligations.UnspecifiedAccessesAreRefused : Prop :=
  ∀ (s : State) (off : Offset),
    (∀ v, off.toNat % 8 ≠ 0 → s.schedule.head? = some (.host (.write off v)) →
      step s = .refused (.unspecifiedAccess off)) ∧
    (off.toNat % 8 ≠ 0 → s.schedule.head? = some (.host (.read off)) →
      step s = .refused (.unspecifiedAccess off)) ∧
    (∀ n, s.schedule.head? = some (.host (.irregular n off)) →
      step s = .refused (.unspecifiedAccess off)) ∧
    (s.schedule.head? = some (.host (.duringReset off)) → step s = .refused (.accessDuringReset off))

/-- One round of POLL reads STATUS, and comes round again after a core step while BUSY reads 1
(30_encoding.md R90; one core step between rounds is the model's choice, log entry 13). -/
def Obligations.PollComesRoundWhileBusy : Prop :=
  ∀ (s : State) (rest : List Turn), s.schedule = .host .poll :: rest →
    step s = .next { s with
      reads := (0x08, statusWord s) :: s.reads
      schedule := if s.busy then .core :: .host .poll :: rest else rest }

/-- The pseudo-instructions of a host program expand as the table says (30_encoding.md R90). -/
def Obligations.PseudoInstructionsExpand : Prop :=
  (∀ src len, expandLine (.hash src len) =
    [.write 0x20 src, .write 0x18 len, .write 0x00 0x31, .poll, .read 0x48]) ∧
  (∀ src len seed, expandLine (.hashs src len seed) =
    [.write 0x20 src, .write 0x18 len, .write 0x10 seed, .write 0x00 0x21, .poll, .read 0x48]) ∧
  (∀ v, expandLine (.hashf64 v) = [.write 0x28 v, .write 0x00 0x32, .poll, .read 0x48]) ∧
  (∀ v, expandLine (.hashf32 v) = [.write 0x28 v, .write 0x00 0x33, .poll, .read 0x48])

/-! ### Reset -/

/-- What every offset of the window reads right after reset (10_state.md R36; the reserved offsets R22, R35),
in the build of `State.reset`, which is the model's choice (log entry 1). -/
def Obligations.ResetReadsTheResetValues : Prop :=
  readWindow 0x00 State.reset = 0 ∧ readWindow 0x08 State.reset = 0 ∧
  readWindow 0x10 State.reset = 0xbdd89aa982704029 ∧ readWindow 0x18 State.reset = 0 ∧
  readWindow 0x20 State.reset = 0 ∧ readWindow 0x28 State.reset = 0 ∧
  readWindow 0x30 State.reset = 0x2d358dccaa6c78a5 ∧
  readWindow 0x38 State.reset = 0x8bb84b93962eacc9 ∧
  readWindow 0x40 State.reset = 0x4b33a62ed433d4a3 ∧ readWindow 0x48 State.reset = 0 ∧
  readWindow 0x50 State.reset = configWord State.reset.cfg ∧ readWindow 0x58 State.reset = 0 ∧
  (∀ off : Offset, 0x60 ≤ off.toNat → off.toNat % 8 = 0 → readWindow off State.reset = 0) ∧
  State.reset.phase = .idle

/-- Asserting reset gives every host-visible register and the phase their reset values and leaves the
configuration as it was (70_reset_and_hazards.md R230, R231), in every build and in the middle of a
command too. The input memory is the host's (R20); that it, `reads` and the schedule are kept is the model's
choice (log entry 18). -/
def Obligations.ResetEventRestoresTheRegisters : Prop :=
  ∀ s : State, s.schedule.head? = some (.host .reset) →
    ∃ t, step s = .next t ∧
      t.busy = false ∧ t.done = false ∧ t.illegal = false ∧ t.wbusy = false ∧ t.buserr = false ∧
      t.seed = 0xbdd89aa982704029 ∧ t.len = 0 ∧ t.src = 0 ∧ t.value = 0 ∧
      t.secret0 = 0x2d358dccaa6c78a5 ∧ t.secret1 = 0x8bb84b93962eacc9 ∧
      t.secret2 = 0x4b33a62ed433d4a3 ∧ t.digest = 0 ∧ t.errinfo = 0 ∧ t.phase = .idle ∧
      t.cfg = s.cfg ∧ readWindow 0x50 t = readWindow 0x50 s ∧
      (∀ p, t.mem.read p = s.mem.read p) ∧ t.schedule = s.schedule.tail ∧ t.reads = s.reads

/-! ### The mixer -/

/-- MUL128 returns the exact 128-bit product (41_mixer.md R100), with the rule's bound on the high half,
its symmetry and its corner cases. -/
def Obligations.Mul128IsExact : Prop :=
  (∀ x y : Word,
    (mul128 x y).1.toNat + 2 ^ 64 * (mul128 x y).2.toNat = x.toNat * y.toNat ∧
    (mul128 x y).2.toNat ≤ 2 ^ 64 - 2 ∧ mul128 x y = mul128 y x) ∧
  (∀ y : Word, mul128 0 y = (0, 0) ∧ mul128 1 y = (y, 0)) ∧
  mul128 0xffffffffffffffff 0xffffffffffffffff = (0x0000000000000001, 0xfffffffffffffffe) ∧
  mul128 0x100000000 0x100000000 = (0, 1) ∧
  mul128 0x0123456789abcdef 0xfedcba9876543210 = (0x2236d88fe5618cf0, 0x0121fa00ad77d742)

/-- The multiplier built from 32-bit halves returns the value of MUL128 for every operand pair
(41_mixer.md R101). -/
def Obligations.SchoolbookMultiplierConforms : Prop :=
  ∀ x y : Word, mul128Schoolbook x y = mul128 x y

/-- MIX folds the product halves in both modes, is symmetric, and has the corner cases of the table
(41_mixer.md R102, R103). -/
def Obligations.MixFoldsTheProduct : Prop :=
  (∀ x y : Word,
    mix .overwrite x y = (mul128 x y).1 ^^^ (mul128 x y).2 ∧
    mix .accumulate x y = x ^^^ y ^^^ (mul128 x y).1 ^^^ (mul128 x y).2) ∧
  (∀ (m : MixMode) (x y : Word), mix m x y = mix m y x) ∧
  (∀ y : Word, mix .overwrite 0 y = 0 ∧ mix .accumulate 0 y = y ∧
    mix .overwrite 1 y = y ∧ mix .accumulate 1 y = 1) ∧
  (∀ m : MixMode, mix m 0xffffffffffffffff 0xffffffffffffffff = 0xffffffffffffffff ∧
    mix m 0x100000000 0x100000000 = 1 ∧
    mix m 0x8000000000000000 0x8000000000000000 = 0x4000000000000000) ∧
  mix .overwrite 0x8000000000000000 2 = 1 ∧ mix .accumulate 0x8000000000000000 2 = 0x8000000000000003

/-! ### Memory -/

/-- BYTE(j) is the byte the memory holds at the exact address BASE + j when the host keeps the byte
stable, and 0 for j ≥ L (20_memory.md R61, R63). -/
def Obligations.InputBytesComeFromBasePlusOffset : Prop :=
  ∀ (s : State) (site j : Nat),
    (j < s.lw.toNat → unstable s (s.base.toNat + j) = false →
      byte s site j = s.mem.read (s.base.toNat + j)) ∧
    (s.lw.toNat ≤ j → byte s site j = 0)

/-- READ64 and READ32 assemble their bytes little-endian, READ32 zero-extended (20_memory.md R60, R64). -/
def Obligations.WindowsAreLittleEndian : Prop :=
  ∀ (s : State) (site off : Nat),
    (∀ k, k < 8 → (read64 s site off).extractLsb' (8 * k) 8 = byte s (site + k) (off + k)) ∧
    (∀ k, k < 4 → (read32 s site off).extractLsb' (8 * k) 8 = byte s (site + k) (off + k)) ∧
    (read32 s site off).extractLsb' 32 32 = 0

/-- READ64 over `bytes_le(v, 8)` returns `v` (20_memory.md R60), and READ32 over `bytes_le(v, 4)` the low
half of `v`. -/
def Obligations.ReadingBytesLeReturnsTheValue : Prop :=
  ∀ (s : State) (site off : Nat) (v : Word),
    ((∀ k, k < 8 → some (byte s (site + k) (off + k)) = (bytesLe v 8)[k]?) → read64 s site off = v) ∧
    ((∀ k, k < 4 → some (byte s (site + k) (off + k)) = (bytesLe v 4)[k]?) →
      read32 s site off = (v.setWidth 32).setWidth 64)

/-- A stored byte reads back and every other byte reads as before (the input memory of 20_memory.md R61;
the canonical list is the model's, log entry 6). -/
def Obligations.StoredBytesReadBack : Prop :=
  ∀ (m : Memory) (p q : Nat) (v : Byte), m.wf = true →
    (m.write p v).read q = if q = p then v else m.read q

/-- No instruction changes a byte of the input memory (20_memory.md R62). -/
def Obligations.NoInstructionWritesMemory : Prop :=
  ∀ (i : Instr) (s t : State), exec i s = .next t →
    t.mem = s.mem ∧ ∀ p, t.mem.read p = s.mem.read p

/-- A host store lands in the input memory between core steps and changes no other byte and no register;
while a command is in progress it leaves the byte racing. A read returns a free byte when the byte is racing,
when a store to it has begun and not completed, when a store to it is still ahead in the command, and when
the memory there has read side effects; and every core step of a command whose later turns, before it ends,
begin or complete a store to a byte reads that byte as free (20_memory.md R69, R73, 70_reset_and_hazards.md
R234, 93_implementation_defined.md I2, I3). The lists `racing` and `inFlight`, the look ahead `storeAhead`, the
ranges `cfg.volatile` and the fault for an address the memory does not have are the model's (log entries 5, 7
and 8). -/
def Obligations.HostStoresDuringACommandRace : Prop :=
  (∀ (s : State) (p : Nat) (v : Byte), s.mem.wf = true → p < 2 ^ s.cfg.addrWidth →
    s.schedule.head? = some (.host (.store p v)) →
    ∃ t, step s = .next t ∧
      (∀ q, t.mem.read q = if q = p then v else s.mem.read q) ∧
      (s.busy = true → p ∈ t.racing ∧ ∀ q ∈ s.racing, q ∈ t.racing) ∧
      (s.busy = false → t.racing = s.racing) ∧
      t = { s with mem := t.mem, inFlight := s.inFlight.erase p, racing := t.racing,
                   schedule := s.schedule.tail }) ∧
  (∀ (s : State) (p : Nat), p < 2 ^ s.cfg.addrWidth →
    s.schedule.head? = some (.host (.storeBegin p)) →
    step s = .next { s with inFlight := p :: s.inFlight, schedule := s.schedule.tail }) ∧
  (∀ (s : State) (p : Nat) (v : Byte), 2 ^ s.cfg.addrWidth ≤ p →
    (s.schedule.head? = some (.host (.store p v)) ∨ s.schedule.head? = some (.host (.storeBegin p))) →
    step s = .fault (.noSuchAddress p)) ∧
  (∀ (s : State) (site p : Nat),
    (p ∈ s.racing ∨ p ∈ s.inFlight ∨ (∃ r ∈ s.cfg.volatile, r.base ≤ p ∧ p < r.base + r.size) ∨
      storeAhead p (.core :: s.schedule) s = true) →
    inputByte s site p = Config.freeByte s.draws site) ∧
  ∀ (s u : State) (n site p : Nat), Inv s → (s.schedule = [] ∨ s.schedule.head? = some .core) →
    (∀ m, m ≤ n → ∃ w, Sys2Proof.core.run m s = .next w ∧ w.busy = true) →
    Sys2Proof.core.run n s = .next u → p < 2 ^ u.cfg.addrWidth →
    ((∃ v, u.schedule.head? = some (.host (.store p v))) ∨
      u.schedule.head? = some (.host (.storeBegin p))) →
    inputByte { s with schedule := s.schedule.tail } site p = Config.freeByte s.draws site

/-! ### Seed, dispatch and the short branches -/

/-- SEED (42_seed_dispatch.md R120). -/
def Obligations.SeedDerivesTheWorkingSeed : Prop :=
  ∀ s : State, exec .seed s = .next { s with
    seedw := s.seedw ^^^ mix s.cfg.mixMode (s.seedw ^^^ s.s0) s.s1 ^^^ s.lw
    phase := match s.kind with
      | .digest => .dispatch
      | .fixed64 => .fix8
      | .fixed32 => .fix4 }

/-- The derived seed depends only on the latched seed, two secret words, the mode and L; two lengths give
derived seeds that differ in the XOR of the lengths; with the defaults it is a constant XOR L
(42_seed_dispatch.md R121). -/
def Obligations.DerivedSeedDependsOnLengthByXor : Prop :=
  (∀ s t s' t' : State, s.seedw = t.seedw → s.s0 = t.s0 → s.s1 = t.s1 →
    s.cfg.mixMode = t.cfg.mixMode → exec .seed s = .next s' → exec .seed t = .next t' →
    s'.seedw ^^^ t'.seedw = s.lw ^^^ t.lw) ∧
  ∀ s s' : State, s.seedw = 0xbdd89aa982704029 → s.s0 = 0x2d358dccaa6c78a5 →
    s.s1 = 0x8bb84b93962eacc9 → s.cfg.mixMode = .overwrite → exec .seed s = .next s' →
    s'.seedw = 0x763305bbe7bea536 ^^^ s.lw

/-- DISPATCH (42_seed_dispatch.md R122). -/
def Obligations.DispatchSelectsTheBranch : Prop :=
  ∀ s : State,
    (s.lw.toNat = 0 → exec .dispatch s = .next { s with phase := .empty }) ∧
    (1 ≤ s.lw.toNat → s.lw.toNat ≤ 3 → exec .dispatch s = .next { s with phase := .tiny }) ∧
    (4 ≤ s.lw.toNat → s.lw.toNat ≤ 16 → exec .dispatch s = .next { s with phase := .short }) ∧
    (17 ≤ s.lw.toNat → s.lw.toNat ≤ 48 →
      exec .dispatch s = .next { s with i := s.lw, phase := .tail1 }) ∧
    (48 < s.lw.toNat → exec .dispatch s = .next { s with
      i := s.lw, see1 := s.seedw, see2 := s.seedw, phase := .block })

/-- EMPTY (42_seed_dispatch.md R124). -/
def Obligations.EmptyClearsTheOperands : Prop :=
  ∀ s : State, exec .empty s = .next { s with a := 0, b := 0, phase := .final }

/-- TINY, when its bytes are admitted (42_seed_dispatch.md R126; in states no run reaches an offset below zero is 0,
log entry 10). -/
def Obligations.TinyPacksThreeBytes : Prop :=
  ∀ s : State, Readable s [0, s.lw.toNat >>> 1, s.lw.toNat - 1] →
    exec .tiny s = .next { s with
      a := ((byte s 0 0).setWidth 64 <<< s.cfg.tinyShifts.s0.val) |||
        ((byte s 1 (s.lw.toNat >>> 1)).setWidth 64 <<< s.cfg.tinyShifts.s1.val) |||
        ((byte s 2 (s.lw.toNat - 1)).setWidth 64 <<< s.cfg.tinyShifts.s2.val)
      b := 0
      phase := .final
      draws := s.draws + 1 }

/-- SHORT, when its bytes are admitted (42_seed_dispatch.md R129; in states no run reaches an offset below zero is 0,
log entry 10). -/
def Obligations.ShortReadsOverlappingWindows : Prop :=
  ∀ s : State, Readable s (shortReads s.lw.toNat) →
    exec .short s = .next { s with
      a := (read32 s 0 0 <<< 32) ||| read32 s 4 (s.lw.toNat - 4)
      b := (read32 s 8 (delta s.lw.toNat) <<< 32) |||
        read32 s 12 (s.lw.toNat - 4 - delta s.lw.toNat)
      phase := .final
      draws := s.draws + 1 }

/-- The overlap offset is 0 for lengths 4 to 7 and 4 for 8 to 16, and SHORT's four windows stay inside
the input and cover it (42_seed_dispatch.md R128, R130). -/
def Obligations.ShortWindowsCoverTheInput : Prop :=
  ∀ L : Nat, 4 ≤ L → L ≤ 16 →
    delta L = (if L ≤ 7 then 0 else 4) ∧ delta L + 4 ≤ L ∧
    (L - 4 - delta L) + delta L + 4 = L ∧
    ∀ j, j ∈ shortReads L ↔ j < L

/-! ### The block loop, the tail, the last sixteen bytes -/

/-- BLOCK, when its bytes are admitted (43_block_loop.md R140, R141; in states no run reaches an offset below
zero is 0 and the count wraps, log entry 10). -/
def Obligations.BlockFoldsFortyEightBytes : Prop :=
  ∀ s : State, Readable s (window (s.lw.toNat - s.i.toNat) 48) →
    exec .block s = .next { s with
      seedw := mix s.cfg.mixMode (read64 s 0 (s.lw.toNat - s.i.toNat) ^^^ s.s0)
        (read64 s 8 (s.lw.toNat - s.i.toNat + 8) ^^^ s.seedw)
      see1 := mix s.cfg.mixMode (read64 s 16 (s.lw.toNat - s.i.toNat + 16) ^^^ s.s1)
        (read64 s 24 (s.lw.toNat - s.i.toNat + 24) ^^^ s.see1)
      see2 := mix s.cfg.mixMode (read64 s 32 (s.lw.toNat - s.i.toNat + 32) ^^^ s.s2)
        (read64 s 40 (s.lw.toNat - s.i.toNat + 40) ^^^ s.see2)
      i := s.i - 48
      phase := if s.cfg.blockLoopInclusive then
          (if 48 ≤ (s.i - 48).toNat then .block else .fold)
        else (if 48 < (s.i - 48).toNat then .block else .fold)
      draws := s.draws + 1 }

/-- FOLD (43_block_loop.md R142). -/
def Obligations.FoldCombinesTheAccumulators : Prop :=
  ∀ s : State, exec .fold s = .next { s with
    seedw := s.seedw ^^^ s.see1 ^^^ s.see2
    phase := if 16 < s.i.toNat then .tail1 else .last }

/-- TAIL1, when its bytes are admitted (43_block_loop.md R143; in states no run reaches an offset below zero is 0,
log entry 10). -/
def Obligations.TailOneMixesSixteenBytes : Prop :=
  ∀ s : State, Readable s (window (s.lw.toNat - s.i.toNat) 16) →
    exec .tail1 s = .next { s with
      seedw := mix s.cfg.mixMode (read64 s 0 (s.lw.toNat - s.i.toNat) ^^^ s.s2)
        (read64 s 8 (s.lw.toNat - s.i.toNat + 8) ^^^ s.seedw ^^^ s.s1)
      phase := if 32 < s.i.toNat then .tail2 else .last
      draws := s.draws + 1 }

/-- TAIL2, when its bytes are admitted (43_block_loop.md R144; in states no run reaches an offset below zero is 0,
log entry 10). -/
def Obligations.TailTwoMixesSixteenBytes : Prop :=
  ∀ s : State, Readable s (window (s.lw.toNat - s.i.toNat + 16) 16) →
    exec .tail2 s = .next { s with
      seedw := mix s.cfg.mixMode (read64 s 0 (s.lw.toNat - s.i.toNat + 16) ^^^ s.s2)
        (read64 s 8 (s.lw.toNat - s.i.toNat + 24) ^^^ s.seedw)
      phase := .last
      draws := s.draws + 1 }

/-- LAST, when its bytes are admitted (43_block_loop.md R145; in states no run reaches an offset below zero is 0,
log entry 10). -/
def Obligations.LastReadsTheFinalSixteenBytes : Prop :=
  ∀ s : State, Readable s (window (s.lw.toNat - 16) 16) →
    exec .last s = .next { s with
      a := read64 s 0 (s.lw.toNat - 16)
      b := read64 s 8 (s.lw.toNat - 8)
      phase := .final
      draws := s.draws + 1 }

/-! ### The finalizer and the fixed-width paths -/

/-- FINAL (44_finalizer.md R160). -/
def Obligations.FinalMultipliesTheOperands : Prop :=
  ∀ s : State,
    let lo := (mul128 (s.a ^^^ s.s1) (s.b ^^^ s.seedw)).1
    let hi := (mul128 (s.a ^^^ s.s1) (s.b ^^^ s.seedw)).2
    ((s.cfg.finalMulFollowsMode = true ∧ s.cfg.mixMode = .accumulate) →
      exec .final s = .next { s with
        a := s.a ^^^ s.s1 ^^^ lo, b := s.b ^^^ s.seedw ^^^ hi, phase := .out }) ∧
    (¬(s.cfg.finalMulFollowsMode = true ∧ s.cfg.mixMode = .accumulate) →
      exec .final s = .next { s with a := lo, b := hi, phase := .out })

/-- OUT (44_finalizer.md R162). -/
def Obligations.OutWritesTheDigest : Prop :=
  ∀ s : State, exec .out s = .next { s with
    digest := mix s.cfg.mixMode (s.a ^^^ s.s0 ^^^ s.lw)
      (s.b ^^^ (match s.cfg.finalBSecret with
        | 0 => s.s0
        | 1 => s.s1
        | 2 => s.s2))
    done := true
    busy := false
    phase := .idle }

/-- FIX8 and FIX4 (45_fixed_width.md R170, R171), stated on the halves of A and B. -/
def Obligations.FixedWidthPacking : Prop :=
  ∀ s : State,
    (∃ t, exec .fix8 s = .next t ∧ t = { s with a := t.a, b := s.vw, phase := .final } ∧
      t.a.extractLsb' 32 32 = s.vw.extractLsb' 0 32 ∧ t.a.extractLsb' 0 32 = s.vw.extractLsb' 32 32) ∧
    (∃ t, exec .fix4 s = .next t ∧ t = { s with a := t.a, b := t.a, phase := .final } ∧
      t.a.extractLsb' 32 32 = s.vw.extractLsb' 0 32 ∧ t.a.extractLsb' 0 32 = s.vw.extractLsb' 0 32)

/-! ### Errors, frames and invariants -/

/-- A refused byte aborts the command in the step that finds it, with the lowest refused address recorded
if it is the first error, and nothing else changes; only the six reading phases can set BUSERR
(60_exceptions.md R203, 20_memory.md R68). -/
def Obligations.RefusedReadsAbortTheCommand : Prop :=
  (∀ (i : Instr) (s : State) (p : Nat),
    i ∈ ([.tiny, .short, .block, .tail1, .tail2, .last] : List Instr) →
    LowestRefused s (readSet i s) p →
    exec i s = .next { s with
      buserr := true
      errinfo := if s.illegal || s.wbusy || s.buserr then s.errinfo else BitVec.ofNat 64 p
      busy := false
      done := false
      phase := .idle }) ∧
  ∀ (i : Instr) (s t : State),
    i ∉ ([.tiny, .short, .block, .tail1, .tail2, .last] : List Instr) →
    exec i s = .next t → t.buserr = true → s.buserr = true

/-- No micro-operation changes the registers the host writes, the configuration, or an operand latched at
accept, SEEDW excepted, which is the working seed (10_state.md R29, R30, R32, R41, R43). -/
def Obligations.MicroOperationsKeepOperandsAndSecrets : Prop :=
  ∀ (i : Instr) (s t : State), i.isCommand = false → exec i s = .next t →
    t.cfg = s.cfg ∧ t.seed = s.seed ∧ t.len = s.len ∧ t.src = s.src ∧ t.value = s.value ∧
    t.secret0 = s.secret0 ∧ t.secret1 = s.secret1 ∧ t.secret2 = s.secret2 ∧
    t.kind = s.kind ∧ t.lw = s.lw ∧ t.base = s.base ∧ t.vw = s.vw ∧
    t.s0 = s.s0 ∧ t.s1 = s.s1 ∧ t.s2 = s.s2 ∧ t.illegal = s.illegal ∧ t.wbusy = s.wbusy ∧
    t.reads = s.reads ∧ t.schedule = s.schedule

/-- In one step of the machine DIGEST changes only by the OUT micro-operation or by reset
(10_state.md R33). -/
def Obligations.DigestIsWrittenOnlyByOut : Prop :=
  ∀ s t : State, step s = .next t →
    t.digest = s.digest ∨ fetch s = some .out ∨ s.schedule.head? = some (.host .reset)

/-- The error bits are sticky: only CLRSTAT while idle or reset clears one, and a set error bit does not
keep a digest command from being accepted nor does the accept clear it (10_state.md R27). -/
def Obligations.ErrorBitsAreSticky : Prop :=
  (∀ s t : State, step s = .next t →
    ((s.illegal = true → t.illegal = true) ∧ (s.wbusy = true → t.wbusy = true) ∧
      (s.buserr = true → t.buserr = true)) ∨
    (fetch s = some .clrstat ∧ s.busy = false) ∨ s.schedule.head? = some (.host .reset)) ∧
  ∀ (s : State) (i : Instr), s.busy = false → i.isCommand = true → i ≠ .clrstat →
    ∃ t, exec i s = .next t ∧ t.busy = true ∧ t.phase = .seed ∧
      t.illegal = s.illegal ∧ t.wbusy = s.wbusy ∧ t.buserr = s.buserr

/-- ERRINFO keeps the record of the first error: once an error bit is set only CLRSTAT while idle or
reset changes ERRINFO; and while none is set it changes only in a step that sets one
(60_exceptions.md R204, 10_state.md R34). -/
def Obligations.ErrinfoKeepsTheFirstRecord : Prop :=
  ∀ s t : State, step s = .next t →
    t.errinfo = s.errinfo ∨ (noError s = true ∧ noError t = false) ∨
    (fetch s = some .clrstat ∧ s.busy = false) ∨ s.schedule.head? = some (.host .reset)

/-- DS = 1 latches the seed that SEED's reset value holds, and DK = 1 the secret that SECRET0..2 hold at
reset, so with those values in the registers the command words are equal in effect
(46_commands.md R183). -/
def Obligations.DefaultOperandsMatchTheRegisters : Prop :=
  ∀ (s : State) (ds dk : Bool),
    (s.seed = 0xbdd89aa982704029 →
      exec (.digest true dk) s = exec (.digest false dk) s ∧
      exec (.fixed64 true dk) s = exec (.fixed64 false dk) s ∧
      exec (.fixed32 true dk) s = exec (.fixed32 false dk) s) ∧
    (s.secret0 = 0x2d358dccaa6c78a5 → s.secret1 = 0x8bb84b93962eacc9 →
      s.secret2 = 0x4b33a62ed433d4a3 →
      exec (.digest ds true) s = exec (.digest ds false) s ∧
      exec (.fixed64 ds true) s = exec (.fixed64 ds false) s ∧
      exec (.fixed32 ds true) s = exec (.fixed32 ds false) s)

/-- No read the core makes extends past the input (20_memory.md R65, 43_block_loop.md R146): in a state of
the invariant every offset of the read set of the phase's micro-operation is below L. -/
def Obligations.ReadsStayInsideTheInput : Prop :=
  ∀ (s : State) (i : Instr), Inv s → decode (.phase s.phase.code) = .ok i →
    ∀ j ∈ readSet i s, j < s.lw.toNat

/-- The successor of a phase depends only on KIND, LW, I and the configuration, whatever the input bytes,
the seed and the secret are, when no read is refused (43_block_loop.md R147). -/
def Obligations.SuccessorIgnoresTheData : Prop :=
  ∀ (i : Instr) (s t s' t' : State), i.isCommand = false →
    s.cfg = t.cfg → s.kind = t.kind → s.lw = t.lw → s.i = t.i →
    Readable s (readSet i s) → Readable t (readSet i t) →
    exec i s = .next s' → exec i t = .next t' → s'.phase = t'.phase

/-- The sequencer follows the table of successors (30_encoding.md R86, 10_state.md R40): a core step goes
to a successor of its phase, or aborts to IDLE from a reading phase; a host's turn leaves the phase as it is,
but for a command that leaves IDLE and for reset. -/
def Obligations.PhasesFollowTheSuccessorTable : Prop :=
  ∀ s t : State, Inv s → step s = .next t →
    ((s.schedule = [] ∨ s.schedule.head? = some .core) → s.phase ≠ .idle →
      (s.phase, t.phase) ∈ ([(.seed, .dispatch), (.seed, .fix8), (.seed, .fix4),
        (.dispatch, .empty), (.dispatch, .tiny), (.dispatch, .short), (.dispatch, .tail1),
        (.dispatch, .block), (.empty, .final), (.tiny, .final), (.short, .final), (.block, .block),
        (.block, .fold), (.fold, .tail1), (.fold, .last), (.tail1, .tail2), (.tail1, .last),
        (.tail2, .last), (.last, .final), (.final, .out), (.out, .idle), (.fix8, .final),
        (.fix4, .final)] : List (Phase × Phase)) ∨
      (s.phase ∈ ([.tiny, .short, .block, .tail1, .tail2, .last] : List Phase) ∧
        t.phase = .idle ∧ t.buserr = true)) ∧
    ∀ e, s.schedule.head? = some (.host e) →
      t.phase = s.phase ∨ (s.phase = .idle ∧ t.phase = .seed ∧ ∃ w, e = .write 0x00 w) ∨
        (e = .reset ∧ t.phase = .idle)

/-- The invariant holds right after reset (its values at reset that the spec leaves open are the model's,
log entries 1, 3, 6, 7 and 9). -/
def Obligations.ResetMeetsTheInvariant : Prop := Inv State.reset

/-- Every step keeps the invariant: BUSY exactly when the phase is not IDLE (10_state.md R25), DONE only at
IDLE (R26), the widths of SRC and BASE (R30), ERRINFO clear while no error bit is set (R34), each phase's
entry conditions (43_block_loop.md R146), the memory's canonical form. -/
def Obligations.StepKeepsTheInvariant : Prop :=
  ∀ s t : State, Inv s → step s = .next t → Inv t

/-! ### Whole commands -/

/-- Every accepted command ends, whatever the host's lawful turns in between are: it completes with exactly
the core steps of 70_reset_and_hazards.md R240 and DONE = 1, or aborts after fewer with BUSERR = 1, DONE = 0
and DIGEST unchanged (46_commands.md R190). That the core's turns follow a schedule used up is the model's
choice (log entry 3). -/
def Obligations.AcceptedCommandsEnd : Prop :=
  ∀ s : State, Inv s → s.phase = .seed → (∀ x ∈ s.schedule, lawful s.cfg x = true) →
    ∃ n k t, CommandEnds s n k t ∧
      ((k = coreSteps s.cfg s.kind s.lw.toNat ∧ t.done = true) ∨
        (k < coreSteps s.cfg s.kind s.lw.toNat ∧ t.done = false ∧ t.buserr = true ∧
          t.digest = s.digest))

/-- A DIGEST command leaves RAPIDHASH of its input in DIGEST when every input byte is admitted and the host
keeps the input stable, whatever the host's other lawful turns are: reads, POLL rounds, register and command
writes, stores outside the input (46_commands.md R184, R189; 70_reset_and_hazards.md R234;
93_implementation_defined.md I11). That the core's turns follow a schedule used up is the model's choice (log
entry 3). -/
def Obligations.DigestCommandComputesRapidhash : Prop :=
  ∀ (s : State) (ds dk : Bool) (rest : List Turn), s.busy = false →
    s.schedule = .host (.write 0x00 (commandWord 1 ds dk)) :: rest →
    (∀ x ∈ rest, lawful s.cfg x = true) →
    (∀ j, j < s.len.toNat → admitted s.cfg (s.src.toNat + j) = true) →
    Quiet s s.src.toNat s.len.toNat →
    ∃ n t, CommandEnds s n (coreSteps s.cfg .digest s.len.toNat) t ∧
      t.digest = rapidhash s.cfg (fun j => s.mem.read (s.src.toNat + j)) s.len
        (seedOperand ds s) (secretOperand dk s) ∧
      t.done = true ∧ t.buserr = s.buserr

/-- The FIXED64 and FIXED32 commands leave RAPIDHASH of the value's little-endian bytes in DIGEST, whatever
the host's lawful turns meanwhile are (46_commands.md R185, R189; 45_fixed_width.md R172;
93_implementation_defined.md I11). That the core's turns follow a schedule used up is the model's choice (log
entry 3). -/
def Obligations.FixedCommandsComputeRapidhash : Prop :=
  ∀ (s : State) (ds dk : Bool) (rest : List Turn), s.busy = false →
    (∀ x ∈ rest, lawful s.cfg x = true) →
    (s.schedule = .host (.write 0x00 (commandWord 2 ds dk)) :: rest →
      ∃ n t, CommandEnds s n 4 t ∧
        t.digest = rapidhash s.cfg (fun j => (s.value >>> (8 * j)).setWidth 8) 8
          (seedOperand ds s) (secretOperand dk s) ∧
        t.done = true ∧ t.buserr = s.buserr) ∧
    (s.schedule = .host (.write 0x00 (commandWord 3 ds dk)) :: rest →
      ∃ n t, CommandEnds s n 4 t ∧
        t.digest = rapidhash s.cfg (fun j => (s.value >>> (8 * j)).setWidth 8) 4
          (seedOperand ds s) (secretOperand dk s) ∧
        t.done = true ∧ t.buserr = s.buserr)

/-- Fixed-width equivalence (45_fixed_width.md R172): a FIXED64 command with VALUE = v and a DIGEST command
over a buffer that holds `bytes_le(v, 8)`, with the same DS, DK, SEED and SECRET0..2 and in every
configuration, leave equal digests, each under lawful turns of its own; likewise FIXED32 and
`bytes_le(w, 4)`. That the core's turns follow a schedule used up is the model's choice (log entry 3). -/
def Obligations.FixedWidthEquivalence : Prop :=
  ∀ (s a b : State) (n : Nat) (op : BitVec 4) (ds dk : Bool) (rest rest' : List Turn),
    (n = 8 ∧ op = 2) ∨ (n = 4 ∧ op = 3) →
    a = { s with schedule := .host (.write 0x00 (commandWord op ds dk)) :: rest } →
    b = { s with schedule := .host (.write 0x00 (commandWord 1 ds dk)) :: rest' } →
    (∀ x ∈ rest, lawful s.cfg x = true) → (∀ x ∈ rest', lawful s.cfg x = true) →
    s.busy = false → s.len = BitVec.ofNat 64 n →
    (∀ k, k < n → admitted s.cfg (s.src.toNat + k) = true) → Quiet b s.src.toNat n →
    (∀ k, k < n → some (s.mem.read (s.src.toNat + k)) = (bytesLe s.value n)[k]?) →
    ∃ i t j u, CommandEnds a i 4 t ∧ CommandEnds b j 5 u ∧
      t.done = true ∧ u.done = true ∧ t.digest = u.digest

/-- Determinism (10_state.md R48): two DIGEST commands with equal operands, equal configuration and equal
input bytes leave equal digests, and so do two FIXED64 or two FIXED32 commands with equal operands, whatever
else the two machines hold and whatever lawful turns each host takes meanwhile. That the core's turns follow
a schedule used up is the model's choice (log entry 3). -/
def Obligations.EqualInputsGiveEqualDigests : Prop :=
  ∀ (s t : State) (op : BitVec 4) (ds dk : Bool) (rest rest' : List Turn),
    s.busy = false → t.busy = false →
    s.schedule = .host (.write 0x00 (commandWord op ds dk)) :: rest →
    t.schedule = .host (.write 0x00 (commandWord op ds dk)) :: rest' →
    (∀ x ∈ rest, lawful s.cfg x = true) → (∀ x ∈ rest', lawful t.cfg x = true) →
    s.cfg = t.cfg → s.seed = t.seed → s.secret0 = t.secret0 → s.secret1 = t.secret1 →
    s.secret2 = t.secret2 →
    (op = 1 ∧ s.len = t.len ∧
      (∀ j, j < s.len.toNat → admitted s.cfg (s.src.toNat + j) = true ∧
        admitted t.cfg (t.src.toNat + j) = true ∧
        s.mem.read (s.src.toNat + j) = t.mem.read (t.src.toNat + j)) ∧
      Quiet s s.src.toNat s.len.toNat ∧ Quiet t t.src.toNat t.len.toNat) ∨
      (op = 2 ∧ s.value = t.value) ∨ (op = 3 ∧ s.value.setWidth 32 = t.value.setWidth 32) →
    ∃ m n k s' t', CommandEnds s m k s' ∧ CommandEnds t n k t' ∧
      (op = 1 → k = coreSteps s.cfg .digest s.len.toNat) ∧
      s'.done = true ∧ t'.done = true ∧ s'.digest = t'.digest
end

