-- ==== Sys2Proof/Laws/State.lean ====
section
/-! SUPPORT. One lemma per field per state update, so that no later proof unfolds a record update. -/

namespace Sys2Proof.Machine

/-! ### `advance` -/
@[simp] theorem advance_cfg (s : State) : (advance s).cfg = s.cfg := rfl
@[simp] theorem advance_busy (s : State) : (advance s).busy = s.busy := rfl
@[simp] theorem advance_done (s : State) : (advance s).done = s.done := rfl
@[simp] theorem advance_illegal (s : State) : (advance s).illegal = s.illegal := rfl
@[simp] theorem advance_wbusy (s : State) : (advance s).wbusy = s.wbusy := rfl
@[simp] theorem advance_buserr (s : State) : (advance s).buserr = s.buserr := rfl
@[simp] theorem advance_seed (s : State) : (advance s).seed = s.seed := rfl
@[simp] theorem advance_len (s : State) : (advance s).len = s.len := rfl
@[simp] theorem advance_src (s : State) : (advance s).src = s.src := rfl
@[simp] theorem advance_value (s : State) : (advance s).value = s.value := rfl
@[simp] theorem advance_secret0 (s : State) : (advance s).secret0 = s.secret0 := rfl
@[simp] theorem advance_secret1 (s : State) : (advance s).secret1 = s.secret1 := rfl
@[simp] theorem advance_secret2 (s : State) : (advance s).secret2 = s.secret2 := rfl
@[simp] theorem advance_digest (s : State) : (advance s).digest = s.digest := rfl
@[simp] theorem advance_errinfo (s : State) : (advance s).errinfo = s.errinfo := rfl
@[simp] theorem advance_phase (s : State) : (advance s).phase = s.phase := rfl
@[simp] theorem advance_kind (s : State) : (advance s).kind = s.kind := rfl
@[simp] theorem advance_lw (s : State) : (advance s).lw = s.lw := rfl
@[simp] theorem advance_base (s : State) : (advance s).base = s.base := rfl
@[simp] theorem advance_vw (s : State) : (advance s).vw = s.vw := rfl
@[simp] theorem advance_s0 (s : State) : (advance s).s0 = s.s0 := rfl
@[simp] theorem advance_s1 (s : State) : (advance s).s1 = s.s1 := rfl
@[simp] theorem advance_s2 (s : State) : (advance s).s2 = s.s2 := rfl
@[simp] theorem advance_seedw (s : State) : (advance s).seedw = s.seedw := rfl
@[simp] theorem advance_see1 (s : State) : (advance s).see1 = s.see1 := rfl
@[simp] theorem advance_see2 (s : State) : (advance s).see2 = s.see2 := rfl
@[simp] theorem advance_a (s : State) : (advance s).a = s.a := rfl
@[simp] theorem advance_b (s : State) : (advance s).b = s.b := rfl
@[simp] theorem advance_i (s : State) : (advance s).i = s.i := rfl
@[simp] theorem advance_mem (s : State) : (advance s).mem = s.mem := rfl
@[simp] theorem advance_inFlight (s : State) : (advance s).inFlight = s.inFlight := rfl
@[simp] theorem advance_racing (s : State) : (advance s).racing = s.racing := rfl
@[simp] theorem advance_draws (s : State) : (advance s).draws = s.draws := rfl
@[simp] theorem advance_schedule (s : State) : (advance s).schedule = s.schedule.tail := rfl
@[simp] theorem advance_reads (s : State) : (advance s).reads = s.reads := rfl

/-! ### `controlStep` -/
@[simp] theorem controlStep_cfg (s : State) :
    (controlStep s).cfg = s.cfg := by
  unfold controlStep; split <;> [rfl; split <;> rfl]
@[simp] theorem controlStep_busy (s : State) :
    (controlStep s).busy = s.busy := by
  unfold controlStep; split <;> [rfl; split <;> rfl]
@[simp] theorem controlStep_done (s : State) :
    (controlStep s).done = s.done := by
  unfold controlStep; split <;> [rfl; split <;> rfl]
@[simp] theorem controlStep_illegal (s : State) :
    (controlStep s).illegal = s.illegal := by
  unfold controlStep; split <;> [rfl; split <;> rfl]
@[simp] theorem controlStep_wbusy (s : State) :
    (controlStep s).wbusy = s.wbusy := by
  unfold controlStep; split <;> [rfl; split <;> rfl]
@[simp] theorem controlStep_buserr (s : State) :
    (controlStep s).buserr = s.buserr := by
  unfold controlStep; split <;> [rfl; split <;> rfl]
@[simp] theorem controlStep_seed (s : State) :
    (controlStep s).seed = s.seed := by
  unfold controlStep; split <;> [rfl; split <;> rfl]
@[simp] theorem controlStep_len (s : State) :
    (controlStep s).len = s.len := by
  unfold controlStep; split <;> [rfl; split <;> rfl]
@[simp] theorem controlStep_src (s : State) :
    (controlStep s).src = s.src := by
  unfold controlStep; split <;> [rfl; split <;> rfl]
@[simp] theorem controlStep_value (s : State) :
    (controlStep s).value = s.value := by
  unfold controlStep; split <;> [rfl; split <;> rfl]
@[simp] theorem controlStep_secret0 (s : State) :
    (controlStep s).secret0 = s.secret0 := by
  unfold controlStep; split <;> [rfl; split <;> rfl]
@[simp] theorem controlStep_secret1 (s : State) :
    (controlStep s).secret1 = s.secret1 := by
  unfold controlStep; split <;> [rfl; split <;> rfl]
@[simp] theorem controlStep_secret2 (s : State) :
    (controlStep s).secret2 = s.secret2 := by
  unfold controlStep; split <;> [rfl; split <;> rfl]
@[simp] theorem controlStep_digest (s : State) :
    (controlStep s).digest = s.digest := by
  unfold controlStep; split <;> [rfl; split <;> rfl]
@[simp] theorem controlStep_errinfo (s : State) :
    (controlStep s).errinfo = s.errinfo := by
  unfold controlStep; split <;> [rfl; split <;> rfl]
@[simp] theorem controlStep_kind (s : State) :
    (controlStep s).kind = s.kind := by
  unfold controlStep; split <;> [rfl; split <;> rfl]
@[simp] theorem controlStep_lw (s : State) :
    (controlStep s).lw = s.lw := by
  unfold controlStep; split <;> [rfl; split <;> rfl]
@[simp] theorem controlStep_base (s : State) :
    (controlStep s).base = s.base := by
  unfold controlStep; split <;> [rfl; split <;> rfl]
@[simp] theorem controlStep_vw (s : State) :
    (controlStep s).vw = s.vw := by
  unfold controlStep; split <;> [rfl; split <;> rfl]
@[simp] theorem controlStep_s0 (s : State) :
    (controlStep s).s0 = s.s0 := by
  unfold controlStep; split <;> [rfl; split <;> rfl]
@[simp] theorem controlStep_s1 (s : State) :
    (controlStep s).s1 = s.s1 := by
  unfold controlStep; split <;> [rfl; split <;> rfl]
@[simp] theorem controlStep_s2 (s : State) :
    (controlStep s).s2 = s.s2 := by
  unfold controlStep; split <;> [rfl; split <;> rfl]
@[simp] theorem controlStep_seedw (s : State) :
    (controlStep s).seedw = s.seedw := by
  unfold controlStep; split <;> [rfl; split <;> rfl]
@[simp] theorem controlStep_see1 (s : State) :
    (controlStep s).see1 = s.see1 := by
  unfold controlStep; split <;> [rfl; split <;> rfl]
@[simp] theorem controlStep_see2 (s : State) :
    (controlStep s).see2 = s.see2 := by
  unfold controlStep; split <;> [rfl; split <;> rfl]
@[simp] theorem controlStep_a (s : State) :
    (controlStep s).a = s.a := by
  unfold controlStep; split <;> [rfl; split <;> rfl]
@[simp] theorem controlStep_b (s : State) :
    (controlStep s).b = s.b := by
  unfold controlStep; split <;> [rfl; split <;> rfl]
@[simp] theorem controlStep_mem (s : State) :
    (controlStep s).mem = s.mem := by
  unfold controlStep; split <;> [rfl; split <;> rfl]
@[simp] theorem controlStep_inFlight (s : State) :
    (controlStep s).inFlight = s.inFlight := by
  unfold controlStep; split <;> [rfl; split <;> rfl]
@[simp] theorem controlStep_racing (s : State) :
    (controlStep s).racing = s.racing := by
  unfold controlStep; split <;> [rfl; split <;> rfl]
@[simp] theorem controlStep_draws (s : State) :
    (controlStep s).draws = s.draws := by
  unfold controlStep; split <;> [rfl; split <;> rfl]
@[simp] theorem controlStep_schedule (s : State) :
    (controlStep s).schedule = s.schedule := by
  unfold controlStep; split <;> [rfl; split <;> rfl]
@[simp] theorem controlStep_reads (s : State) :
    (controlStep s).reads = s.reads := by
  unfold controlStep; split <;> [rfl; split <;> rfl]

/-! ### `acceptFlags` -/
@[simp] theorem acceptFlags_cfg (s : State) : (acceptFlags s).cfg = s.cfg := rfl
@[simp] theorem acceptFlags_busy (s : State) : (acceptFlags s).busy = true := rfl
@[simp] theorem acceptFlags_done (s : State) : (acceptFlags s).done = false := rfl
@[simp] theorem acceptFlags_illegal (s : State) : (acceptFlags s).illegal = s.illegal := rfl
@[simp] theorem acceptFlags_wbusy (s : State) : (acceptFlags s).wbusy = s.wbusy := rfl
@[simp] theorem acceptFlags_buserr (s : State) : (acceptFlags s).buserr = s.buserr := rfl
@[simp] theorem acceptFlags_seed (s : State) : (acceptFlags s).seed = s.seed := rfl
@[simp] theorem acceptFlags_len (s : State) : (acceptFlags s).len = s.len := rfl
@[simp] theorem acceptFlags_src (s : State) : (acceptFlags s).src = s.src := rfl
@[simp] theorem acceptFlags_value (s : State) : (acceptFlags s).value = s.value := rfl
@[simp] theorem acceptFlags_secret0 (s : State) : (acceptFlags s).secret0 = s.secret0 := rfl
@[simp] theorem acceptFlags_secret1 (s : State) : (acceptFlags s).secret1 = s.secret1 := rfl
@[simp] theorem acceptFlags_secret2 (s : State) : (acceptFlags s).secret2 = s.secret2 := rfl
@[simp] theorem acceptFlags_digest (s : State) : (acceptFlags s).digest = s.digest := rfl
@[simp] theorem acceptFlags_errinfo (s : State) : (acceptFlags s).errinfo = s.errinfo := rfl
@[simp] theorem acceptFlags_phase (s : State) : (acceptFlags s).phase = s.phase := rfl
@[simp] theorem acceptFlags_kind (s : State) : (acceptFlags s).kind = s.kind := rfl
@[simp] theorem acceptFlags_lw (s : State) : (acceptFlags s).lw = s.lw := rfl
@[simp] theorem acceptFlags_base (s : State) : (acceptFlags s).base = s.base := rfl
@[simp] theorem acceptFlags_vw (s : State) : (acceptFlags s).vw = s.vw := rfl
@[simp] theorem acceptFlags_s0 (s : State) : (acceptFlags s).s0 = s.s0 := rfl
@[simp] theorem acceptFlags_s1 (s : State) : (acceptFlags s).s1 = s.s1 := rfl
@[simp] theorem acceptFlags_s2 (s : State) : (acceptFlags s).s2 = s.s2 := rfl
@[simp] theorem acceptFlags_seedw (s : State) : (acceptFlags s).seedw = s.seedw := rfl
@[simp] theorem acceptFlags_see1 (s : State) : (acceptFlags s).see1 = s.see1 := rfl
@[simp] theorem acceptFlags_see2 (s : State) : (acceptFlags s).see2 = s.see2 := rfl
@[simp] theorem acceptFlags_a (s : State) : (acceptFlags s).a = s.a := rfl
@[simp] theorem acceptFlags_b (s : State) : (acceptFlags s).b = s.b := rfl
@[simp] theorem acceptFlags_i (s : State) : (acceptFlags s).i = s.i := rfl
@[simp] theorem acceptFlags_mem (s : State) : (acceptFlags s).mem = s.mem := rfl
@[simp] theorem acceptFlags_inFlight (s : State) : (acceptFlags s).inFlight = s.inFlight := rfl
@[simp] theorem acceptFlags_racing (s : State) : (acceptFlags s).racing = s.racing := rfl
@[simp] theorem acceptFlags_draws (s : State) : (acceptFlags s).draws = s.draws := rfl
@[simp] theorem acceptFlags_schedule (s : State) : (acceptFlags s).schedule = s.schedule := rfl
@[simp] theorem acceptFlags_reads (s : State) : (acceptFlags s).reads = s.reads := rfl

/-! ### `completeFlags` -/
@[simp] theorem completeFlags_cfg (s : State) : (completeFlags s).cfg = s.cfg := rfl
@[simp] theorem completeFlags_busy (s : State) : (completeFlags s).busy = false := rfl
@[simp] theorem completeFlags_done (s : State) : (completeFlags s).done = true := rfl
@[simp] theorem completeFlags_illegal (s : State) : (completeFlags s).illegal = s.illegal := rfl
@[simp] theorem completeFlags_wbusy (s : State) : (completeFlags s).wbusy = s.wbusy := rfl
@[simp] theorem completeFlags_buserr (s : State) : (completeFlags s).buserr = s.buserr := rfl
@[simp] theorem completeFlags_seed (s : State) : (completeFlags s).seed = s.seed := rfl
@[simp] theorem completeFlags_len (s : State) : (completeFlags s).len = s.len := rfl
@[simp] theorem completeFlags_src (s : State) : (completeFlags s).src = s.src := rfl
@[simp] theorem completeFlags_value (s : State) : (completeFlags s).value = s.value := rfl
@[simp] theorem completeFlags_secret0 (s : State) : (completeFlags s).secret0 = s.secret0 := rfl
@[simp] theorem completeFlags_secret1 (s : State) : (completeFlags s).secret1 = s.secret1 := rfl
@[simp] theorem completeFlags_secret2 (s : State) : (completeFlags s).secret2 = s.secret2 := rfl
@[simp] theorem completeFlags_digest (s : State) : (completeFlags s).digest = s.digest := rfl
@[simp] theorem completeFlags_errinfo (s : State) : (completeFlags s).errinfo = s.errinfo := rfl
@[simp] theorem completeFlags_phase (s : State) : (completeFlags s).phase = s.phase := rfl
@[simp] theorem completeFlags_kind (s : State) : (completeFlags s).kind = s.kind := rfl
@[simp] theorem completeFlags_lw (s : State) : (completeFlags s).lw = s.lw := rfl
@[simp] theorem completeFlags_base (s : State) : (completeFlags s).base = s.base := rfl
@[simp] theorem completeFlags_vw (s : State) : (completeFlags s).vw = s.vw := rfl
@[simp] theorem completeFlags_s0 (s : State) : (completeFlags s).s0 = s.s0 := rfl
@[simp] theorem completeFlags_s1 (s : State) : (completeFlags s).s1 = s.s1 := rfl
@[simp] theorem completeFlags_s2 (s : State) : (completeFlags s).s2 = s.s2 := rfl
@[simp] theorem completeFlags_seedw (s : State) : (completeFlags s).seedw = s.seedw := rfl
@[simp] theorem completeFlags_see1 (s : State) : (completeFlags s).see1 = s.see1 := rfl
@[simp] theorem completeFlags_see2 (s : State) : (completeFlags s).see2 = s.see2 := rfl
@[simp] theorem completeFlags_a (s : State) : (completeFlags s).a = s.a := rfl
@[simp] theorem completeFlags_b (s : State) : (completeFlags s).b = s.b := rfl
@[simp] theorem completeFlags_i (s : State) : (completeFlags s).i = s.i := rfl
@[simp] theorem completeFlags_mem (s : State) : (completeFlags s).mem = s.mem := rfl
@[simp] theorem completeFlags_inFlight (s : State) : (completeFlags s).inFlight = s.inFlight := rfl
@[simp] theorem completeFlags_racing (s : State) : (completeFlags s).racing = s.racing := rfl
@[simp] theorem completeFlags_draws (s : State) : (completeFlags s).draws = s.draws := rfl
@[simp] theorem completeFlags_schedule (s : State) : (completeFlags s).schedule = s.schedule := rfl
@[simp] theorem completeFlags_reads (s : State) : (completeFlags s).reads = s.reads := rfl

/-! ### `abortFlags` -/
@[simp] theorem abortFlags_cfg (s : State) : (abortFlags s).cfg = s.cfg := rfl
@[simp] theorem abortFlags_busy (s : State) : (abortFlags s).busy = false := rfl
@[simp] theorem abortFlags_done (s : State) : (abortFlags s).done = false := rfl
@[simp] theorem abortFlags_illegal (s : State) : (abortFlags s).illegal = s.illegal := rfl
@[simp] theorem abortFlags_wbusy (s : State) : (abortFlags s).wbusy = s.wbusy := rfl
@[simp] theorem abortFlags_buserr (s : State) : (abortFlags s).buserr = s.buserr := rfl
@[simp] theorem abortFlags_seed (s : State) : (abortFlags s).seed = s.seed := rfl
@[simp] theorem abortFlags_len (s : State) : (abortFlags s).len = s.len := rfl
@[simp] theorem abortFlags_src (s : State) : (abortFlags s).src = s.src := rfl
@[simp] theorem abortFlags_value (s : State) : (abortFlags s).value = s.value := rfl
@[simp] theorem abortFlags_secret0 (s : State) : (abortFlags s).secret0 = s.secret0 := rfl
@[simp] theorem abortFlags_secret1 (s : State) : (abortFlags s).secret1 = s.secret1 := rfl
@[simp] theorem abortFlags_secret2 (s : State) : (abortFlags s).secret2 = s.secret2 := rfl
@[simp] theorem abortFlags_digest (s : State) : (abortFlags s).digest = s.digest := rfl
@[simp] theorem abortFlags_errinfo (s : State) : (abortFlags s).errinfo = s.errinfo := rfl
@[simp] theorem abortFlags_phase (s : State) : (abortFlags s).phase = s.phase := rfl
@[simp] theorem abortFlags_kind (s : State) : (abortFlags s).kind = s.kind := rfl
@[simp] theorem abortFlags_lw (s : State) : (abortFlags s).lw = s.lw := rfl
@[simp] theorem abortFlags_base (s : State) : (abortFlags s).base = s.base := rfl
@[simp] theorem abortFlags_vw (s : State) : (abortFlags s).vw = s.vw := rfl
@[simp] theorem abortFlags_s0 (s : State) : (abortFlags s).s0 = s.s0 := rfl
@[simp] theorem abortFlags_s1 (s : State) : (abortFlags s).s1 = s.s1 := rfl
@[simp] theorem abortFlags_s2 (s : State) : (abortFlags s).s2 = s.s2 := rfl
@[simp] theorem abortFlags_seedw (s : State) : (abortFlags s).seedw = s.seedw := rfl
@[simp] theorem abortFlags_see1 (s : State) : (abortFlags s).see1 = s.see1 := rfl
@[simp] theorem abortFlags_see2 (s : State) : (abortFlags s).see2 = s.see2 := rfl
@[simp] theorem abortFlags_a (s : State) : (abortFlags s).a = s.a := rfl
@[simp] theorem abortFlags_b (s : State) : (abortFlags s).b = s.b := rfl
@[simp] theorem abortFlags_i (s : State) : (abortFlags s).i = s.i := rfl
@[simp] theorem abortFlags_mem (s : State) : (abortFlags s).mem = s.mem := rfl
@[simp] theorem abortFlags_inFlight (s : State) : (abortFlags s).inFlight = s.inFlight := rfl
@[simp] theorem abortFlags_racing (s : State) : (abortFlags s).racing = s.racing := rfl
@[simp] theorem abortFlags_draws (s : State) : (abortFlags s).draws = s.draws := rfl
@[simp] theorem abortFlags_schedule (s : State) : (abortFlags s).schedule = s.schedule := rfl
@[simp] theorem abortFlags_reads (s : State) : (abortFlags s).reads = s.reads := rfl

/-! ### `clearStatus` -/
@[simp] theorem clearStatus_cfg (s : State) : (clearStatus s).cfg = s.cfg := rfl
@[simp] theorem clearStatus_busy (s : State) : (clearStatus s).busy = s.busy := rfl
@[simp] theorem clearStatus_done (s : State) : (clearStatus s).done = false := rfl
@[simp] theorem clearStatus_illegal (s : State) : (clearStatus s).illegal = false := rfl
@[simp] theorem clearStatus_wbusy (s : State) : (clearStatus s).wbusy = false := rfl
@[simp] theorem clearStatus_buserr (s : State) : (clearStatus s).buserr = false := rfl
@[simp] theorem clearStatus_seed (s : State) : (clearStatus s).seed = s.seed := rfl
@[simp] theorem clearStatus_len (s : State) : (clearStatus s).len = s.len := rfl
@[simp] theorem clearStatus_src (s : State) : (clearStatus s).src = s.src := rfl
@[simp] theorem clearStatus_value (s : State) : (clearStatus s).value = s.value := rfl
@[simp] theorem clearStatus_secret0 (s : State) : (clearStatus s).secret0 = s.secret0 := rfl
@[simp] theorem clearStatus_secret1 (s : State) : (clearStatus s).secret1 = s.secret1 := rfl
@[simp] theorem clearStatus_secret2 (s : State) : (clearStatus s).secret2 = s.secret2 := rfl
@[simp] theorem clearStatus_digest (s : State) : (clearStatus s).digest = s.digest := rfl
@[simp] theorem clearStatus_errinfo (s : State) : (clearStatus s).errinfo = 0 := rfl
@[simp] theorem clearStatus_phase (s : State) : (clearStatus s).phase = s.phase := rfl
@[simp] theorem clearStatus_kind (s : State) : (clearStatus s).kind = s.kind := rfl
@[simp] theorem clearStatus_lw (s : State) : (clearStatus s).lw = s.lw := rfl
@[simp] theorem clearStatus_base (s : State) : (clearStatus s).base = s.base := rfl
@[simp] theorem clearStatus_vw (s : State) : (clearStatus s).vw = s.vw := rfl
@[simp] theorem clearStatus_s0 (s : State) : (clearStatus s).s0 = s.s0 := rfl
@[simp] theorem clearStatus_s1 (s : State) : (clearStatus s).s1 = s.s1 := rfl
@[simp] theorem clearStatus_s2 (s : State) : (clearStatus s).s2 = s.s2 := rfl
@[simp] theorem clearStatus_seedw (s : State) : (clearStatus s).seedw = s.seedw := rfl
@[simp] theorem clearStatus_see1 (s : State) : (clearStatus s).see1 = s.see1 := rfl
@[simp] theorem clearStatus_see2 (s : State) : (clearStatus s).see2 = s.see2 := rfl
@[simp] theorem clearStatus_a (s : State) : (clearStatus s).a = s.a := rfl
@[simp] theorem clearStatus_b (s : State) : (clearStatus s).b = s.b := rfl
@[simp] theorem clearStatus_i (s : State) : (clearStatus s).i = s.i := rfl
@[simp] theorem clearStatus_mem (s : State) : (clearStatus s).mem = s.mem := rfl
@[simp] theorem clearStatus_inFlight (s : State) : (clearStatus s).inFlight = s.inFlight := rfl
@[simp] theorem clearStatus_racing (s : State) : (clearStatus s).racing = s.racing := rfl
@[simp] theorem clearStatus_draws (s : State) : (clearStatus s).draws = s.draws := rfl
@[simp] theorem clearStatus_schedule (s : State) : (clearStatus s).schedule = s.schedule := rfl
@[simp] theorem clearStatus_reads (s : State) : (clearStatus s).reads = s.reads := rfl

/-! ### `accept` -/
@[simp] theorem accept_cfg (k : Kind) (ds dk : Bool) (s : State) :
    (accept k ds dk s).cfg = s.cfg := rfl
@[simp] theorem accept_busy (k : Kind) (ds dk : Bool) (s : State) :
    (accept k ds dk s).busy = true := rfl
@[simp] theorem accept_done (k : Kind) (ds dk : Bool) (s : State) :
    (accept k ds dk s).done = false := rfl
@[simp] theorem accept_illegal (k : Kind) (ds dk : Bool) (s : State) :
    (accept k ds dk s).illegal = s.illegal := rfl
@[simp] theorem accept_wbusy (k : Kind) (ds dk : Bool) (s : State) :
    (accept k ds dk s).wbusy = s.wbusy := rfl
@[simp] theorem accept_buserr (k : Kind) (ds dk : Bool) (s : State) :
    (accept k ds dk s).buserr = s.buserr := rfl
@[simp] theorem accept_seed (k : Kind) (ds dk : Bool) (s : State) :
    (accept k ds dk s).seed = s.seed := rfl
@[simp] theorem accept_len (k : Kind) (ds dk : Bool) (s : State) :
    (accept k ds dk s).len = s.len := rfl
@[simp] theorem accept_src (k : Kind) (ds dk : Bool) (s : State) :
    (accept k ds dk s).src = s.src := rfl
@[simp] theorem accept_value (k : Kind) (ds dk : Bool) (s : State) :
    (accept k ds dk s).value = s.value := rfl
@[simp] theorem accept_secret0 (k : Kind) (ds dk : Bool) (s : State) :
    (accept k ds dk s).secret0 = s.secret0 := rfl
@[simp] theorem accept_secret1 (k : Kind) (ds dk : Bool) (s : State) :
    (accept k ds dk s).secret1 = s.secret1 := rfl
@[simp] theorem accept_secret2 (k : Kind) (ds dk : Bool) (s : State) :
    (accept k ds dk s).secret2 = s.secret2 := rfl
@[simp] theorem accept_digest (k : Kind) (ds dk : Bool) (s : State) :
    (accept k ds dk s).digest = s.digest := rfl
@[simp] theorem accept_errinfo (k : Kind) (ds dk : Bool) (s : State) :
    (accept k ds dk s).errinfo = s.errinfo := rfl
@[simp] theorem accept_phase (k : Kind) (ds dk : Bool) (s : State) :
    (accept k ds dk s).phase = .seed := rfl
@[simp] theorem accept_kind (k : Kind) (ds dk : Bool) (s : State) :
    (accept k ds dk s).kind = k := rfl
@[simp] theorem accept_lw (k : Kind) (ds dk : Bool) (s : State) :
    (accept k ds dk s).lw = lengthOf k s := rfl
@[simp] theorem accept_base (k : Kind) (ds dk : Bool) (s : State) :
    (accept k ds dk s).base = s.src := rfl
@[simp] theorem accept_vw (k : Kind) (ds dk : Bool) (s : State) :
    (accept k ds dk s).vw = s.value := rfl
@[simp] theorem accept_s0 (k : Kind) (ds dk : Bool) (s : State) :
    (accept k ds dk s).s0 = secretOperand dk s 0 := rfl
@[simp] theorem accept_s1 (k : Kind) (ds dk : Bool) (s : State) :
    (accept k ds dk s).s1 = secretOperand dk s 1 := rfl
@[simp] theorem accept_s2 (k : Kind) (ds dk : Bool) (s : State) :
    (accept k ds dk s).s2 = secretOperand dk s 2 := rfl
@[simp] theorem accept_seedw (k : Kind) (ds dk : Bool) (s : State) :
    (accept k ds dk s).seedw = seedOperand ds s := rfl
@[simp] theorem accept_see1 (k : Kind) (ds dk : Bool) (s : State) :
    (accept k ds dk s).see1 = s.see1 := rfl
@[simp] theorem accept_see2 (k : Kind) (ds dk : Bool) (s : State) :
    (accept k ds dk s).see2 = s.see2 := rfl
@[simp] theorem accept_a (k : Kind) (ds dk : Bool) (s : State) : (accept k ds dk s).a = s.a := rfl
@[simp] theorem accept_b (k : Kind) (ds dk : Bool) (s : State) : (accept k ds dk s).b = s.b := rfl
@[simp] theorem accept_i (k : Kind) (ds dk : Bool) (s : State) : (accept k ds dk s).i = s.i := rfl
@[simp] theorem accept_mem (k : Kind) (ds dk : Bool) (s : State) :
    (accept k ds dk s).mem = s.mem := rfl
@[simp] theorem accept_inFlight (k : Kind) (ds dk : Bool) (s : State) :
    (accept k ds dk s).inFlight = s.inFlight := rfl
@[simp] theorem accept_racing (k : Kind) (ds dk : Bool) (s : State) :
    (accept k ds dk s).racing = [] := rfl
@[simp] theorem accept_draws (k : Kind) (ds dk : Bool) (s : State) :
    (accept k ds dk s).draws = s.draws := rfl
@[simp] theorem accept_schedule (k : Kind) (ds dk : Bool) (s : State) :
    (accept k ds dk s).schedule = s.schedule := rfl
@[simp] theorem accept_reads (k : Kind) (ds dk : Bool) (s : State) :
    (accept k ds dk s).reads = s.reads := rfl

/-! ### `storeBegins` -/
@[simp] theorem storeBegins_cfg (p : Nat) (s : State) : (storeBegins p s).cfg = s.cfg := rfl
@[simp] theorem storeBegins_busy (p : Nat) (s : State) : (storeBegins p s).busy = s.busy := rfl
@[simp] theorem storeBegins_done (p : Nat) (s : State) : (storeBegins p s).done = s.done := rfl
@[simp] theorem storeBegins_illegal (p : Nat) (s : State) :
    (storeBegins p s).illegal = s.illegal := rfl
@[simp] theorem storeBegins_wbusy (p : Nat) (s : State) : (storeBegins p s).wbusy = s.wbusy := rfl
@[simp] theorem storeBegins_buserr (p : Nat) (s : State) :
    (storeBegins p s).buserr = s.buserr := rfl
@[simp] theorem storeBegins_seed (p : Nat) (s : State) : (storeBegins p s).seed = s.seed := rfl
@[simp] theorem storeBegins_len (p : Nat) (s : State) : (storeBegins p s).len = s.len := rfl
@[simp] theorem storeBegins_src (p : Nat) (s : State) : (storeBegins p s).src = s.src := rfl
@[simp] theorem storeBegins_value (p : Nat) (s : State) : (storeBegins p s).value = s.value := rfl
@[simp] theorem storeBegins_secret0 (p : Nat) (s : State) :
    (storeBegins p s).secret0 = s.secret0 := rfl
@[simp] theorem storeBegins_secret1 (p : Nat) (s : State) :
    (storeBegins p s).secret1 = s.secret1 := rfl
@[simp] theorem storeBegins_secret2 (p : Nat) (s : State) :
    (storeBegins p s).secret2 = s.secret2 := rfl
@[simp] theorem storeBegins_digest (p : Nat) (s : State) :
    (storeBegins p s).digest = s.digest := rfl
@[simp] theorem storeBegins_errinfo (p : Nat) (s : State) :
    (storeBegins p s).errinfo = s.errinfo := rfl
@[simp] theorem storeBegins_phase (p : Nat) (s : State) : (storeBegins p s).phase = s.phase := rfl
@[simp] theorem storeBegins_kind (p : Nat) (s : State) : (storeBegins p s).kind = s.kind := rfl
@[simp] theorem storeBegins_lw (p : Nat) (s : State) : (storeBegins p s).lw = s.lw := rfl
@[simp] theorem storeBegins_base (p : Nat) (s : State) : (storeBegins p s).base = s.base := rfl
@[simp] theorem storeBegins_vw (p : Nat) (s : State) : (storeBegins p s).vw = s.vw := rfl
@[simp] theorem storeBegins_s0 (p : Nat) (s : State) : (storeBegins p s).s0 = s.s0 := rfl
@[simp] theorem storeBegins_s1 (p : Nat) (s : State) : (storeBegins p s).s1 = s.s1 := rfl
@[simp] theorem storeBegins_s2 (p : Nat) (s : State) : (storeBegins p s).s2 = s.s2 := rfl
@[simp] theorem storeBegins_seedw (p : Nat) (s : State) : (storeBegins p s).seedw = s.seedw := rfl
@[simp] theorem storeBegins_see1 (p : Nat) (s : State) : (storeBegins p s).see1 = s.see1 := rfl
@[simp] theorem storeBegins_see2 (p : Nat) (s : State) : (storeBegins p s).see2 = s.see2 := rfl
@[simp] theorem storeBegins_a (p : Nat) (s : State) : (storeBegins p s).a = s.a := rfl
@[simp] theorem storeBegins_b (p : Nat) (s : State) : (storeBegins p s).b = s.b := rfl
@[simp] theorem storeBegins_i (p : Nat) (s : State) : (storeBegins p s).i = s.i := rfl
@[simp] theorem storeBegins_mem (p : Nat) (s : State) : (storeBegins p s).mem = s.mem := rfl
@[simp] theorem storeBegins_inFlight (p : Nat) (s : State) :
    (storeBegins p s).inFlight = p :: s.inFlight := rfl
@[simp] theorem storeBegins_racing (p : Nat) (s : State) :
    (storeBegins p s).racing = s.racing := rfl
@[simp] theorem storeBegins_draws (p : Nat) (s : State) : (storeBegins p s).draws = s.draws := rfl
@[simp] theorem storeBegins_schedule (p : Nat) (s : State) :
    (storeBegins p s).schedule = s.schedule := rfl
@[simp] theorem storeBegins_reads (p : Nat) (s : State) : (storeBegins p s).reads = s.reads := rfl

/-! ### `storeCompletes` -/
@[simp] theorem storeCompletes_cfg (p : Nat) (v : Byte) (s : State) :
    (storeCompletes p v s).cfg = s.cfg := rfl
@[simp] theorem storeCompletes_busy (p : Nat) (v : Byte) (s : State) :
    (storeCompletes p v s).busy = s.busy := rfl
@[simp] theorem storeCompletes_done (p : Nat) (v : Byte) (s : State) :
    (storeCompletes p v s).done = s.done := rfl
@[simp] theorem storeCompletes_illegal (p : Nat) (v : Byte) (s : State) :
    (storeCompletes p v s).illegal = s.illegal := rfl
@[simp] theorem storeCompletes_wbusy (p : Nat) (v : Byte) (s : State) :
    (storeCompletes p v s).wbusy = s.wbusy := rfl
@[simp] theorem storeCompletes_buserr (p : Nat) (v : Byte) (s : State) :
    (storeCompletes p v s).buserr = s.buserr := rfl
@[simp] theorem storeCompletes_seed (p : Nat) (v : Byte) (s : State) :
    (storeCompletes p v s).seed = s.seed := rfl
@[simp] theorem storeCompletes_len (p : Nat) (v : Byte) (s : State) :
    (storeCompletes p v s).len = s.len := rfl
@[simp] theorem storeCompletes_src (p : Nat) (v : Byte) (s : State) :
    (storeCompletes p v s).src = s.src := rfl
@[simp] theorem storeCompletes_value (p : Nat) (v : Byte) (s : State) :
    (storeCompletes p v s).value = s.value := rfl
@[simp] theorem storeCompletes_secret0 (p : Nat) (v : Byte) (s : State) :
    (storeCompletes p v s).secret0 = s.secret0 := rfl
@[simp] theorem storeCompletes_secret1 (p : Nat) (v : Byte) (s : State) :
    (storeCompletes p v s).secret1 = s.secret1 := rfl
@[simp] theorem storeCompletes_secret2 (p : Nat) (v : Byte) (s : State) :
    (storeCompletes p v s).secret2 = s.secret2 := rfl
@[simp] theorem storeCompletes_digest (p : Nat) (v : Byte) (s : State) :
    (storeCompletes p v s).digest = s.digest := rfl
@[simp] theorem storeCompletes_errinfo (p : Nat) (v : Byte) (s : State) :
    (storeCompletes p v s).errinfo = s.errinfo := rfl
@[simp] theorem storeCompletes_phase (p : Nat) (v : Byte) (s : State) :
    (storeCompletes p v s).phase = s.phase := rfl
@[simp] theorem storeCompletes_kind (p : Nat) (v : Byte) (s : State) :
    (storeCompletes p v s).kind = s.kind := rfl
@[simp] theorem storeCompletes_lw (p : Nat) (v : Byte) (s : State) :
    (storeCompletes p v s).lw = s.lw := rfl
@[simp] theorem storeCompletes_base (p : Nat) (v : Byte) (s : State) :
    (storeCompletes p v s).base = s.base := rfl
@[simp] theorem storeCompletes_vw (p : Nat) (v : Byte) (s : State) :
    (storeCompletes p v s).vw = s.vw := rfl
@[simp] theorem storeCompletes_s0 (p : Nat) (v : Byte) (s : State) :
    (storeCompletes p v s).s0 = s.s0 := rfl
@[simp] theorem storeCompletes_s1 (p : Nat) (v : Byte) (s : State) :
    (storeCompletes p v s).s1 = s.s1 := rfl
@[simp] theorem storeCompletes_s2 (p : Nat) (v : Byte) (s : State) :
    (storeCompletes p v s).s2 = s.s2 := rfl
@[simp] theorem storeCompletes_seedw (p : Nat) (v : Byte) (s : State) :
    (storeCompletes p v s).seedw = s.seedw := rfl
@[simp] theorem storeCompletes_see1 (p : Nat) (v : Byte) (s : State) :
    (storeCompletes p v s).see1 = s.see1 := rfl
@[simp] theorem storeCompletes_see2 (p : Nat) (v : Byte) (s : State) :
    (storeCompletes p v s).see2 = s.see2 := rfl
@[simp] theorem storeCompletes_a (p : Nat) (v : Byte) (s : State) :
    (storeCompletes p v s).a = s.a := rfl
@[simp] theorem storeCompletes_b (p : Nat) (v : Byte) (s : State) :
    (storeCompletes p v s).b = s.b := rfl
@[simp] theorem storeCompletes_i (p : Nat) (v : Byte) (s : State) :
    (storeCompletes p v s).i = s.i := rfl
@[simp] theorem storeCompletes_mem (p : Nat) (v : Byte) (s : State) :
    (storeCompletes p v s).mem = s.mem.write p v := rfl
@[simp] theorem storeCompletes_inFlight (p : Nat) (v : Byte) (s : State) :
    (storeCompletes p v s).inFlight = s.inFlight.erase p := rfl
@[simp] theorem storeCompletes_racing (p : Nat) (v : Byte) (s : State) :
    (storeCompletes p v s).racing = if s.busy then s.racing.insert p else s.racing := rfl
@[simp] theorem storeCompletes_draws (p : Nat) (v : Byte) (s : State) :
    (storeCompletes p v s).draws = s.draws := rfl
@[simp] theorem storeCompletes_schedule (p : Nat) (v : Byte) (s : State) :
    (storeCompletes p v s).schedule = s.schedule := rfl
@[simp] theorem storeCompletes_reads (p : Nat) (v : Byte) (s : State) :
    (storeCompletes p v s).reads = s.reads := rfl

/-! ### `readEvent` -/
@[simp] theorem readEvent_cfg (off : Offset) (s : State) : (readEvent off s).cfg = s.cfg := rfl
@[simp] theorem readEvent_busy (off : Offset) (s : State) : (readEvent off s).busy = s.busy := rfl
@[simp] theorem readEvent_done (off : Offset) (s : State) : (readEvent off s).done = s.done := rfl
@[simp] theorem readEvent_illegal (off : Offset) (s : State) :
    (readEvent off s).illegal = s.illegal := rfl
@[simp] theorem readEvent_wbusy (off : Offset) (s : State) :
    (readEvent off s).wbusy = s.wbusy := rfl
@[simp] theorem readEvent_buserr (off : Offset) (s : State) :
    (readEvent off s).buserr = s.buserr := rfl
@[simp] theorem readEvent_seed (off : Offset) (s : State) : (readEvent off s).seed = s.seed := rfl
@[simp] theorem readEvent_len (off : Offset) (s : State) : (readEvent off s).len = s.len := rfl
@[simp] theorem readEvent_src (off : Offset) (s : State) : (readEvent off s).src = s.src := rfl
@[simp] theorem readEvent_value (off : Offset) (s : State) :
    (readEvent off s).value = s.value := rfl
@[simp] theorem readEvent_secret0 (off : Offset) (s : State) :
    (readEvent off s).secret0 = s.secret0 := rfl
@[simp] theorem readEvent_secret1 (off : Offset) (s : State) :
    (readEvent off s).secret1 = s.secret1 := rfl
@[simp] theorem readEvent_secret2 (off : Offset) (s : State) :
    (readEvent off s).secret2 = s.secret2 := rfl
@[simp] theorem readEvent_digest (off : Offset) (s : State) :
    (readEvent off s).digest = s.digest := rfl
@[simp] theorem readEvent_errinfo (off : Offset) (s : State) :
    (readEvent off s).errinfo = s.errinfo := rfl
@[simp] theorem readEvent_phase (off : Offset) (s : State) :
    (readEvent off s).phase = s.phase := rfl
@[simp] theorem readEvent_kind (off : Offset) (s : State) : (readEvent off s).kind = s.kind := rfl
@[simp] theorem readEvent_lw (off : Offset) (s : State) : (readEvent off s).lw = s.lw := rfl
@[simp] theorem readEvent_base (off : Offset) (s : State) : (readEvent off s).base = s.base := rfl
@[simp] theorem readEvent_vw (off : Offset) (s : State) : (readEvent off s).vw = s.vw := rfl
@[simp] theorem readEvent_s0 (off : Offset) (s : State) : (readEvent off s).s0 = s.s0 := rfl
@[simp] theorem readEvent_s1 (off : Offset) (s : State) : (readEvent off s).s1 = s.s1 := rfl
@[simp] theorem readEvent_s2 (off : Offset) (s : State) : (readEvent off s).s2 = s.s2 := rfl
@[simp] theorem readEvent_seedw (off : Offset) (s : State) :
    (readEvent off s).seedw = s.seedw := rfl
@[simp] theorem readEvent_see1 (off : Offset) (s : State) : (readEvent off s).see1 = s.see1 := rfl
@[simp] theorem readEvent_see2 (off : Offset) (s : State) : (readEvent off s).see2 = s.see2 := rfl
@[simp] theorem readEvent_a (off : Offset) (s : State) : (readEvent off s).a = s.a := rfl
@[simp] theorem readEvent_b (off : Offset) (s : State) : (readEvent off s).b = s.b := rfl
@[simp] theorem readEvent_i (off : Offset) (s : State) : (readEvent off s).i = s.i := rfl
@[simp] theorem readEvent_mem (off : Offset) (s : State) : (readEvent off s).mem = s.mem := rfl
@[simp] theorem readEvent_inFlight (off : Offset) (s : State) :
    (readEvent off s).inFlight = s.inFlight := rfl
@[simp] theorem readEvent_racing (off : Offset) (s : State) :
    (readEvent off s).racing = s.racing := rfl
@[simp] theorem readEvent_draws (off : Offset) (s : State) :
    (readEvent off s).draws = s.draws := rfl
@[simp] theorem readEvent_schedule (off : Offset) (s : State) :
    (readEvent off s).schedule = s.schedule := rfl
@[simp] theorem readEvent_reads (off : Offset) (s : State) :
    (readEvent off s).reads = (off, readWindow off s) :: s.reads := rfl

/-! ### `blockReset` -/
@[simp] theorem blockReset_cfg (s : State) : (blockReset s).cfg = s.cfg := rfl
@[simp] theorem blockReset_busy (s : State) : (blockReset s).busy = State.reset.busy := rfl
@[simp] theorem blockReset_done (s : State) : (blockReset s).done = State.reset.done := rfl
@[simp] theorem blockReset_illegal (s : State) : (blockReset s).illegal = State.reset.illegal := rfl
@[simp] theorem blockReset_wbusy (s : State) : (blockReset s).wbusy = State.reset.wbusy := rfl
@[simp] theorem blockReset_buserr (s : State) : (blockReset s).buserr = State.reset.buserr := rfl
@[simp] theorem blockReset_seed (s : State) : (blockReset s).seed = State.reset.seed := rfl
@[simp] theorem blockReset_len (s : State) : (blockReset s).len = State.reset.len := rfl
@[simp] theorem blockReset_src (s : State) : (blockReset s).src = State.reset.src := rfl
@[simp] theorem blockReset_value (s : State) : (blockReset s).value = State.reset.value := rfl
@[simp] theorem blockReset_secret0 (s : State) : (blockReset s).secret0 = State.reset.secret0 := rfl
@[simp] theorem blockReset_secret1 (s : State) : (blockReset s).secret1 = State.reset.secret1 := rfl
@[simp] theorem blockReset_secret2 (s : State) : (blockReset s).secret2 = State.reset.secret2 := rfl
@[simp] theorem blockReset_digest (s : State) : (blockReset s).digest = State.reset.digest := rfl
@[simp] theorem blockReset_errinfo (s : State) : (blockReset s).errinfo = State.reset.errinfo := rfl
@[simp] theorem blockReset_phase (s : State) : (blockReset s).phase = State.reset.phase := rfl
@[simp] theorem blockReset_kind (s : State) : (blockReset s).kind = State.reset.kind := rfl
@[simp] theorem blockReset_lw (s : State) : (blockReset s).lw = State.reset.lw := rfl
@[simp] theorem blockReset_base (s : State) : (blockReset s).base = State.reset.base := rfl
@[simp] theorem blockReset_vw (s : State) : (blockReset s).vw = State.reset.vw := rfl
@[simp] theorem blockReset_s0 (s : State) : (blockReset s).s0 = State.reset.s0 := rfl
@[simp] theorem blockReset_s1 (s : State) : (blockReset s).s1 = State.reset.s1 := rfl
@[simp] theorem blockReset_s2 (s : State) : (blockReset s).s2 = State.reset.s2 := rfl
@[simp] theorem blockReset_seedw (s : State) : (blockReset s).seedw = State.reset.seedw := rfl
@[simp] theorem blockReset_see1 (s : State) : (blockReset s).see1 = State.reset.see1 := rfl
@[simp] theorem blockReset_see2 (s : State) : (blockReset s).see2 = State.reset.see2 := rfl
@[simp] theorem blockReset_a (s : State) : (blockReset s).a = State.reset.a := rfl
@[simp] theorem blockReset_b (s : State) : (blockReset s).b = State.reset.b := rfl
@[simp] theorem blockReset_i (s : State) : (blockReset s).i = State.reset.i := rfl
@[simp] theorem blockReset_mem (s : State) : (blockReset s).mem = s.mem := rfl
@[simp] theorem blockReset_inFlight (s : State) : (blockReset s).inFlight = s.inFlight := rfl
@[simp] theorem blockReset_racing (s : State) : (blockReset s).racing = State.reset.racing := rfl
@[simp] theorem blockReset_draws (s : State) : (blockReset s).draws = s.draws := rfl
@[simp] theorem blockReset_schedule (s : State) : (blockReset s).schedule = s.schedule := rfl
@[simp] theorem blockReset_reads (s : State) : (blockReset s).reads = s.reads := rfl

/-! ### `raise` -/
@[simp] theorem raise_cfg (c : ErrorCause) (s : State) :
    (raise c s).cfg = s.cfg := by cases c <;> rfl
@[simp] theorem raise_seed (c : ErrorCause) (s : State) :
    (raise c s).seed = s.seed := by cases c <;> rfl
@[simp] theorem raise_len (c : ErrorCause) (s : State) :
    (raise c s).len = s.len := by cases c <;> rfl
@[simp] theorem raise_src (c : ErrorCause) (s : State) :
    (raise c s).src = s.src := by cases c <;> rfl
@[simp] theorem raise_value (c : ErrorCause) (s : State) :
    (raise c s).value = s.value := by cases c <;> rfl
@[simp] theorem raise_secret0 (c : ErrorCause) (s : State) :
    (raise c s).secret0 = s.secret0 := by cases c <;> rfl
@[simp] theorem raise_secret1 (c : ErrorCause) (s : State) :
    (raise c s).secret1 = s.secret1 := by cases c <;> rfl
@[simp] theorem raise_secret2 (c : ErrorCause) (s : State) :
    (raise c s).secret2 = s.secret2 := by cases c <;> rfl
@[simp] theorem raise_digest (c : ErrorCause) (s : State) :
    (raise c s).digest = s.digest := by cases c <;> rfl
@[simp] theorem raise_errinfo (c : ErrorCause) (s : State) :
    (raise c s).errinfo = errinfoAfter c s := by cases c <;> rfl
@[simp] theorem raise_kind (c : ErrorCause) (s : State) :
    (raise c s).kind = s.kind := by cases c <;> rfl
@[simp] theorem raise_lw (c : ErrorCause) (s : State) : (raise c s).lw = s.lw := by cases c <;> rfl
@[simp] theorem raise_base (c : ErrorCause) (s : State) :
    (raise c s).base = s.base := by cases c <;> rfl
@[simp] theorem raise_vw (c : ErrorCause) (s : State) : (raise c s).vw = s.vw := by cases c <;> rfl
@[simp] theorem raise_s0 (c : ErrorCause) (s : State) : (raise c s).s0 = s.s0 := by cases c <;> rfl
@[simp] theorem raise_s1 (c : ErrorCause) (s : State) : (raise c s).s1 = s.s1 := by cases c <;> rfl
@[simp] theorem raise_s2 (c : ErrorCause) (s : State) : (raise c s).s2 = s.s2 := by cases c <;> rfl
@[simp] theorem raise_seedw (c : ErrorCause) (s : State) :
    (raise c s).seedw = s.seedw := by cases c <;> rfl
@[simp] theorem raise_see1 (c : ErrorCause) (s : State) :
    (raise c s).see1 = s.see1 := by cases c <;> rfl
@[simp] theorem raise_see2 (c : ErrorCause) (s : State) :
    (raise c s).see2 = s.see2 := by cases c <;> rfl
@[simp] theorem raise_a (c : ErrorCause) (s : State) : (raise c s).a = s.a := by cases c <;> rfl
@[simp] theorem raise_b (c : ErrorCause) (s : State) : (raise c s).b = s.b := by cases c <;> rfl
@[simp] theorem raise_i (c : ErrorCause) (s : State) : (raise c s).i = s.i := by cases c <;> rfl
@[simp] theorem raise_mem (c : ErrorCause) (s : State) :
    (raise c s).mem = s.mem := by cases c <;> rfl
@[simp] theorem raise_inFlight (c : ErrorCause) (s : State) :
    (raise c s).inFlight = s.inFlight := by cases c <;> rfl
@[simp] theorem raise_racing (c : ErrorCause) (s : State) :
    (raise c s).racing = s.racing := by cases c <;> rfl
@[simp] theorem raise_draws (c : ErrorCause) (s : State) :
    (raise c s).draws = s.draws := by cases c <;> rfl
@[simp] theorem raise_schedule (c : ErrorCause) (s : State) :
    (raise c s).schedule = s.schedule := by cases c <;> rfl
@[simp] theorem raise_reads (c : ErrorCause) (s : State) :
    (raise c s).reads = s.reads := by cases c <;> rfl

@[simp] theorem raise_illegalCommand_busy (w : Word) (s : State) :
    (raise (.illegalCommand w) s).busy = s.busy := rfl
@[simp] theorem raise_illegalCommand_done (w : Word) (s : State) :
    (raise (.illegalCommand w) s).done = s.done := rfl
@[simp] theorem raise_illegalCommand_illegal (w : Word) (s : State) :
    (raise (.illegalCommand w) s).illegal = true := rfl
@[simp] theorem raise_illegalCommand_wbusy (w : Word) (s : State) :
    (raise (.illegalCommand w) s).wbusy = s.wbusy := rfl
@[simp] theorem raise_illegalCommand_buserr (w : Word) (s : State) :
    (raise (.illegalCommand w) s).buserr = s.buserr := rfl
@[simp] theorem raise_illegalCommand_phase (w : Word) (s : State) :
    (raise (.illegalCommand w) s).phase = s.phase := rfl
@[simp] theorem raise_writeWhileBusy_busy (off : Offset) (s : State) :
    (raise (.writeWhileBusy off) s).busy = s.busy := rfl
@[simp] theorem raise_writeWhileBusy_done (off : Offset) (s : State) :
    (raise (.writeWhileBusy off) s).done = s.done := rfl
@[simp] theorem raise_writeWhileBusy_illegal (off : Offset) (s : State) :
    (raise (.writeWhileBusy off) s).illegal = s.illegal := rfl
@[simp] theorem raise_writeWhileBusy_wbusy (off : Offset) (s : State) :
    (raise (.writeWhileBusy off) s).wbusy = true := rfl
@[simp] theorem raise_writeWhileBusy_buserr (off : Offset) (s : State) :
    (raise (.writeWhileBusy off) s).buserr = s.buserr := rfl
@[simp] theorem raise_writeWhileBusy_phase (off : Offset) (s : State) :
    (raise (.writeWhileBusy off) s).phase = s.phase := rfl
@[simp] theorem raise_busError_busy (p : Nat) (s : State) :
    (raise (.busError p) s).busy = false := rfl
@[simp] theorem raise_busError_done (p : Nat) (s : State) :
    (raise (.busError p) s).done = false := rfl
@[simp] theorem raise_busError_illegal (p : Nat) (s : State) :
    (raise (.busError p) s).illegal = s.illegal := rfl
@[simp] theorem raise_busError_wbusy (p : Nat) (s : State) :
    (raise (.busError p) s).wbusy = s.wbusy := rfl
@[simp] theorem raise_busError_buserr (p : Nat) (s : State) :
    (raise (.busError p) s).buserr = true := rfl
@[simp] theorem raise_busError_phase (p : Nat) (s : State) :
    (raise (.busError p) s).phase = .idle := rfl

/-! ### `writeReg` -/
@[simp] theorem writeReg_cfg (r : Reg) (v : Word) (s : State) :
    (writeReg r v s).cfg = s.cfg := by cases r <;> rfl
@[simp] theorem writeReg_busy (r : Reg) (v : Word) (s : State) :
    (writeReg r v s).busy = s.busy := by cases r <;> rfl
@[simp] theorem writeReg_done (r : Reg) (v : Word) (s : State) :
    (writeReg r v s).done = s.done := by cases r <;> rfl
@[simp] theorem writeReg_illegal (r : Reg) (v : Word) (s : State) :
    (writeReg r v s).illegal = s.illegal := by cases r <;> rfl
@[simp] theorem writeReg_wbusy (r : Reg) (v : Word) (s : State) :
    (writeReg r v s).wbusy = s.wbusy := by cases r <;> rfl
@[simp] theorem writeReg_buserr (r : Reg) (v : Word) (s : State) :
    (writeReg r v s).buserr = s.buserr := by cases r <;> rfl
@[simp] theorem writeReg_digest (r : Reg) (v : Word) (s : State) :
    (writeReg r v s).digest = s.digest := by cases r <;> rfl
@[simp] theorem writeReg_errinfo (r : Reg) (v : Word) (s : State) :
    (writeReg r v s).errinfo = s.errinfo := by cases r <;> rfl
@[simp] theorem writeReg_phase (r : Reg) (v : Word) (s : State) :
    (writeReg r v s).phase = s.phase := by cases r <;> rfl
@[simp] theorem writeReg_kind (r : Reg) (v : Word) (s : State) :
    (writeReg r v s).kind = s.kind := by cases r <;> rfl
@[simp] theorem writeReg_lw (r : Reg) (v : Word) (s : State) :
    (writeReg r v s).lw = s.lw := by cases r <;> rfl
@[simp] theorem writeReg_base (r : Reg) (v : Word) (s : State) :
    (writeReg r v s).base = s.base := by cases r <;> rfl
@[simp] theorem writeReg_vw (r : Reg) (v : Word) (s : State) :
    (writeReg r v s).vw = s.vw := by cases r <;> rfl
@[simp] theorem writeReg_s0 (r : Reg) (v : Word) (s : State) :
    (writeReg r v s).s0 = s.s0 := by cases r <;> rfl
@[simp] theorem writeReg_s1 (r : Reg) (v : Word) (s : State) :
    (writeReg r v s).s1 = s.s1 := by cases r <;> rfl
@[simp] theorem writeReg_s2 (r : Reg) (v : Word) (s : State) :
    (writeReg r v s).s2 = s.s2 := by cases r <;> rfl
@[simp] theorem writeReg_seedw (r : Reg) (v : Word) (s : State) :
    (writeReg r v s).seedw = s.seedw := by cases r <;> rfl
@[simp] theorem writeReg_see1 (r : Reg) (v : Word) (s : State) :
    (writeReg r v s).see1 = s.see1 := by cases r <;> rfl
@[simp] theorem writeReg_see2 (r : Reg) (v : Word) (s : State) :
    (writeReg r v s).see2 = s.see2 := by cases r <;> rfl
@[simp] theorem writeReg_a (r : Reg) (v : Word) (s : State) :
    (writeReg r v s).a = s.a := by cases r <;> rfl
@[simp] theorem writeReg_b (r : Reg) (v : Word) (s : State) :
    (writeReg r v s).b = s.b := by cases r <;> rfl
@[simp] theorem writeReg_i (r : Reg) (v : Word) (s : State) :
    (writeReg r v s).i = s.i := by cases r <;> rfl
@[simp] theorem writeReg_mem (r : Reg) (v : Word) (s : State) :
    (writeReg r v s).mem = s.mem := by cases r <;> rfl
@[simp] theorem writeReg_inFlight (r : Reg) (v : Word) (s : State) :
    (writeReg r v s).inFlight = s.inFlight := by cases r <;> rfl
@[simp] theorem writeReg_racing (r : Reg) (v : Word) (s : State) :
    (writeReg r v s).racing = s.racing := by cases r <;> rfl
@[simp] theorem writeReg_draws (r : Reg) (v : Word) (s : State) :
    (writeReg r v s).draws = s.draws := by cases r <;> rfl
@[simp] theorem writeReg_schedule (r : Reg) (v : Word) (s : State) :
    (writeReg r v s).schedule = s.schedule := by cases r <;> rfl
@[simp] theorem writeReg_reads (r : Reg) (v : Word) (s : State) :
    (writeReg r v s).reads = s.reads := by cases r <;> rfl

@[simp] theorem writeReg_seed_seed (v : Word) (s : State) :
    (writeReg .seed v s).seed = v := rfl
@[simp] theorem writeReg_seed_len (v : Word) (s : State) :
    (writeReg .seed v s).len = s.len := rfl
@[simp] theorem writeReg_seed_src (v : Word) (s : State) :
    (writeReg .seed v s).src = s.src := rfl
@[simp] theorem writeReg_seed_value (v : Word) (s : State) :
    (writeReg .seed v s).value = s.value := rfl
@[simp] theorem writeReg_seed_secret0 (v : Word) (s : State) :
    (writeReg .seed v s).secret0 = s.secret0 := rfl
@[simp] theorem writeReg_seed_secret1 (v : Word) (s : State) :
    (writeReg .seed v s).secret1 = s.secret1 := rfl
@[simp] theorem writeReg_seed_secret2 (v : Word) (s : State) :
    (writeReg .seed v s).secret2 = s.secret2 := rfl
@[simp] theorem writeReg_len_seed (v : Word) (s : State) :
    (writeReg .len v s).seed = s.seed := rfl
@[simp] theorem writeReg_len_len (v : Word) (s : State) :
    (writeReg .len v s).len = v := rfl
@[simp] theorem writeReg_len_src (v : Word) (s : State) :
    (writeReg .len v s).src = s.src := rfl
@[simp] theorem writeReg_len_value (v : Word) (s : State) :
    (writeReg .len v s).value = s.value := rfl
@[simp] theorem writeReg_len_secret0 (v : Word) (s : State) :
    (writeReg .len v s).secret0 = s.secret0 := rfl
@[simp] theorem writeReg_len_secret1 (v : Word) (s : State) :
    (writeReg .len v s).secret1 = s.secret1 := rfl
@[simp] theorem writeReg_len_secret2 (v : Word) (s : State) :
    (writeReg .len v s).secret2 = s.secret2 := rfl
@[simp] theorem writeReg_src_seed (v : Word) (s : State) :
    (writeReg .src v s).seed = s.seed := rfl
@[simp] theorem writeReg_src_len (v : Word) (s : State) :
    (writeReg .src v s).len = s.len := rfl
@[simp] theorem writeReg_src_src (v : Word) (s : State) :
    (writeReg .src v s).src = maskAddr s.cfg v := rfl
@[simp] theorem writeReg_src_value (v : Word) (s : State) :
    (writeReg .src v s).value = s.value := rfl
@[simp] theorem writeReg_src_secret0 (v : Word) (s : State) :
    (writeReg .src v s).secret0 = s.secret0 := rfl
@[simp] theorem writeReg_src_secret1 (v : Word) (s : State) :
    (writeReg .src v s).secret1 = s.secret1 := rfl
@[simp] theorem writeReg_src_secret2 (v : Word) (s : State) :
    (writeReg .src v s).secret2 = s.secret2 := rfl
@[simp] theorem writeReg_value_seed (v : Word) (s : State) :
    (writeReg .value v s).seed = s.seed := rfl
@[simp] theorem writeReg_value_len (v : Word) (s : State) :
    (writeReg .value v s).len = s.len := rfl
@[simp] theorem writeReg_value_src (v : Word) (s : State) :
    (writeReg .value v s).src = s.src := rfl
@[simp] theorem writeReg_value_value (v : Word) (s : State) :
    (writeReg .value v s).value = v := rfl
@[simp] theorem writeReg_value_secret0 (v : Word) (s : State) :
    (writeReg .value v s).secret0 = s.secret0 := rfl
@[simp] theorem writeReg_value_secret1 (v : Word) (s : State) :
    (writeReg .value v s).secret1 = s.secret1 := rfl
@[simp] theorem writeReg_value_secret2 (v : Word) (s : State) :
    (writeReg .value v s).secret2 = s.secret2 := rfl
@[simp] theorem writeReg_secret0_seed (v : Word) (s : State) :
    (writeReg .secret0 v s).seed = s.seed := rfl
@[simp] theorem writeReg_secret0_len (v : Word) (s : State) :
    (writeReg .secret0 v s).len = s.len := rfl
@[simp] theorem writeReg_secret0_src (v : Word) (s : State) :
    (writeReg .secret0 v s).src = s.src := rfl
@[simp] theorem writeReg_secret0_value (v : Word) (s : State) :
    (writeReg .secret0 v s).value = s.value := rfl
@[simp] theorem writeReg_secret0_secret0 (v : Word) (s : State) :
    (writeReg .secret0 v s).secret0 = v := rfl
@[simp] theorem writeReg_secret0_secret1 (v : Word) (s : State) :
    (writeReg .secret0 v s).secret1 = s.secret1 := rfl
@[simp] theorem writeReg_secret0_secret2 (v : Word) (s : State) :
    (writeReg .secret0 v s).secret2 = s.secret2 := rfl
@[simp] theorem writeReg_secret1_seed (v : Word) (s : State) :
    (writeReg .secret1 v s).seed = s.seed := rfl
@[simp] theorem writeReg_secret1_len (v : Word) (s : State) :
    (writeReg .secret1 v s).len = s.len := rfl
@[simp] theorem writeReg_secret1_src (v : Word) (s : State) :
    (writeReg .secret1 v s).src = s.src := rfl
@[simp] theorem writeReg_secret1_value (v : Word) (s : State) :
    (writeReg .secret1 v s).value = s.value := rfl
@[simp] theorem writeReg_secret1_secret0 (v : Word) (s : State) :
    (writeReg .secret1 v s).secret0 = s.secret0 := rfl
@[simp] theorem writeReg_secret1_secret1 (v : Word) (s : State) :
    (writeReg .secret1 v s).secret1 = v := rfl
@[simp] theorem writeReg_secret1_secret2 (v : Word) (s : State) :
    (writeReg .secret1 v s).secret2 = s.secret2 := rfl
@[simp] theorem writeReg_secret2_seed (v : Word) (s : State) :
    (writeReg .secret2 v s).seed = s.seed := rfl
@[simp] theorem writeReg_secret2_len (v : Word) (s : State) :
    (writeReg .secret2 v s).len = s.len := rfl
@[simp] theorem writeReg_secret2_src (v : Word) (s : State) :
    (writeReg .secret2 v s).src = s.src := rfl
@[simp] theorem writeReg_secret2_value (v : Word) (s : State) :
    (writeReg .secret2 v s).value = s.value := rfl
@[simp] theorem writeReg_secret2_secret0 (v : Word) (s : State) :
    (writeReg .secret2 v s).secret0 = s.secret0 := rfl
@[simp] theorem writeReg_secret2_secret1 (v : Word) (s : State) :
    (writeReg .secret2 v s).secret1 = s.secret1 := rfl
@[simp] theorem writeReg_secret2_secret2 (v : Word) (s : State) :
    (writeReg .secret2 v s).secret2 = v := rfl

end Sys2Proof.Machine
end

