-- ==== Sys2Proof/Laws/Memory.lean ====
section
/-! SUPPORT. The memory operations keep the canonical form and the address range. -/

namespace Sys2Proof.Machine

theorem memory_wf_nil : Memory.wf [] = true := rfl

theorem memory_wf_cons (x : Host.Cell) (m : Memory) :
    Memory.wf (x :: m) = true ↔
      (∀ y ∈ m, x.1 < y.1) ∧ x.2 ≠ unlistedByte ∧ Memory.wf m = true := by
  simp only [Memory.wf, List.pairwise_cons, List.all_cons, Bool.and_eq_true, decide_eq_true_eq,
    bne_iff_ne]
  tauto

/-- A stored-to memory lists only the stored address and addresses it listed before. -/
theorem mem_write_mem (m : Memory) (a : Nat) (v : Byte) (x : Host.Cell)
    (h : x ∈ m.write a v) : x = (a, v) ∨ x ∈ m := by
  induction m with
  | nil =>
    simp only [Memory.write] at h
    split at h <;> simp_all
  | cons y m ih =>
    obtain ⟨k, w⟩ := y
    simp only [Memory.write] at h
    split_ifs at h <;> simp only [List.mem_cons] at h ⊢ <;> tauto

/-- A store keeps the canonical form. -/
theorem mem_write_wf (m : Memory) (a : Nat) (v : Byte) (h : m.wf = true) :
    (m.write a v).wf = true := by
  induction m with
  | nil =>
    simp only [Memory.write]
    split_ifs with hv
    · exact h
    · simpa [memory_wf_cons] using ⟨hv, memory_wf_nil⟩
  | cons y m ih =>
    obtain ⟨k, w⟩ := y
    have hc := (memory_wf_cons (k, w) m).1 h
    simp only [Memory.write]
    split_ifs with h1 h2 h3 h4
    · exact h
    · refine (memory_wf_cons _ _).2 ⟨fun y hy => ?_, h2, h⟩
      rcases List.mem_cons.1 hy with rfl | hy
      · exact h1
      · exact Nat.lt_trans h1 (hc.1 y hy)
    · exact hc.2.2
    · subst h3
      exact (memory_wf_cons _ _).2 ⟨hc.1, h4, hc.2.2⟩
    · refine (memory_wf_cons _ _).2 ⟨fun y hy => ?_, hc.2.1, ih hc.2.2⟩
      rcases mem_write_mem m a v y hy with rfl | hy
      · simp only; omega
      · exact hc.1 y hy

/-- Storing a run of bytes keeps the canonical form. -/
theorem mem_writeAll_wf (bs : List Byte) (m : Memory) (a : Nat) (h : m.wf = true) :
    (m.writeAll a bs).wf = true := by
  induction bs generalizing m a with
  | nil => exact h
  | cons b bs ih => exact ih _ _ (mem_write_wf m a b h)

/-- The reset memory is in canonical form. -/
theorem reset_mem_wf : State.reset.mem.wf = true := rfl

end Sys2Proof.Machine
end

