-- ==== Sys2Proof/Laws/Ops.lean ====
section
/-! SUPPORT. One lemma per shared operation: everything it can answer. -/

namespace Sys2Proof.Machine

theorem command_idle (f : State → State) (s : State) (h : s.busy = false) :
    command f s = .next (f s) := by simp [command, h]

theorem command_busy (f : State → State) (s : State) (h : s.busy = true) :
    command f s = .next (raise (.writeWhileBusy 0) s) := by simp [command, h]

/-- All that a command can answer. -/
theorem command_next (f : State → State) (s t : State) (h : command f s = .next t) :
    (s.busy = true ∧ t = raise (.writeWhileBusy 0) s) ∨ (s.busy = false ∧ t = f s) := by
  cases hb : s.busy
  · exact .inr ⟨rfl, by simpa [command, hb] using h.symm⟩
  · exact .inl ⟨rfl, by simpa [command, hb] using h.symm⟩

/-- Nothing is refused exactly when every byte of the read set is admitted. -/
theorem refusedIn_none_iff (s : State) (offs : List Nat) :
    refusedIn s offs = none ↔ Readable s offs := by
  simp only [refusedIn, Readable, List.min?_eq_none_iff, List.filter_eq_nil_iff, List.mem_map,
    List.mem_filter, decide_eq_true_eq, Bool.not_eq_true', Bool.not_eq_false]
  constructor
  · exact fun h j hj hl => h _ ⟨j, ⟨hj, hl⟩, rfl⟩
  · rintro h a ⟨j, ⟨hj, hl⟩, rfl⟩
    exact h j hj hl

/-- What is refused is the lowest refused address of the read set. -/
theorem refusedIn_some_iff (s : State) (offs : List Nat) (a : Nat) :
    refusedIn s offs = some a ↔ LowestRefused s offs a := by
  rw [refusedIn, List.min?_eq_some_iff]
  simp only [List.mem_filter, List.mem_map, LowestRefused, decide_eq_true_eq, Bool.not_eq_true']
  constructor
  · rintro ⟨⟨⟨j, ⟨hj, hl⟩, rfl⟩, ha⟩, hmin⟩
    exact ⟨⟨j, hj, hl, rfl, ha⟩, fun k hk hkl hka => hmin _ ⟨⟨k, ⟨hk, hkl⟩, rfl⟩, hka⟩⟩
  · rintro ⟨⟨j, hj, hl, rfl, ha⟩, hmin⟩
    refine ⟨⟨⟨j, ⟨hj, hl⟩, rfl⟩, ha⟩, ?_⟩
    rintro b ⟨⟨k, ⟨hk, hkl⟩, rfl⟩, hka⟩
    exact hmin k hk hkl hka

/-- A step whose bytes are all admitted completes. -/
theorem readStep_readable (offs : List Nat) (r s : State) (h : Readable s offs) :
    readStep offs r s = .next { r with draws := s.draws + 1 } := by
  simp [readStep, (refusedIn_none_iff s offs).2 h]

/-- A step with a refused byte aborts with the lowest refused address. -/
theorem readStep_refused (offs : List Nat) (r s : State) (a : Nat) (h : LowestRefused s offs a) :
    readStep offs r s = .next (raise (.busError a) s) := by
  simp [readStep, (refusedIn_some_iff s offs a).2 h]

/-- All that a reading step can answer. -/
theorem readStep_next (offs : List Nat) (r s t : State) (h : readStep offs r s = .next t) :
    (Readable s offs ∧ t = { r with draws := s.draws + 1 }) ∨
      ∃ a, LowestRefused s offs a ∧ t = raise (.busError a) s := by
  unfold readStep at h
  split at h
  · next a ha => exact .inr ⟨a, (refusedIn_some_iff s offs a).1 ha, by simpa using h.symm⟩
  · next hn => exact .inl ⟨(refusedIn_none_iff s offs).1 hn, by simpa using h.symm⟩

/-- All that a register access can answer with a next state. -/
theorem atOffset_next (off : Offset) (f : State → State) (s t : State)
    (h : atOffset off f s = .next t) : offsetWf off = true ∧ t = f s := by
  unfold atOffset at h
  split at h
  · next hw => exact ⟨hw, by simpa using h.symm⟩
  · cases h

/-- All that a host store can answer with a next state. -/
theorem inAddressSpace_next (a : Nat) (f : State → State) (s t : State)
    (h : inAddressSpace a f s = .next t) : a < 2 ^ s.cfg.addrWidth ∧ t = f s := by
  unfold inAddressSpace at h
  split at h
  · next hw => exact ⟨hw, by simpa using h.symm⟩
  · cases h

/-- All that a write of an illegal word to CMD can do. -/
theorem illegalWord_cases (w : Word) (s : State) :
    (s.busy = true ∧ illegalWord w s = raise (.writeWhileBusy 0) s) ∨
      (s.busy = false ∧ illegalWord w s = raise (.illegalCommand w) s) := by
  cases h : s.busy <;> simp [illegalWord, h]

/-- All that a write to the window, CMD aside, can do. -/
theorem writeWindow_cases (off : Offset) (v : Word) (s : State) :
    writeWindow off v s = s ∨
      (s.busy = true ∧ writeWindow off v s = raise (.writeWhileBusy off) s) ∨
      ∃ r, regAt off = some r ∧ s.busy = false ∧ writeWindow off v s = writeReg r v s := by
  unfold writeWindow
  split
  · exact .inl rfl
  · next r hr =>
    split
    · cases hb : s.busy
      · exact .inr (.inr ⟨r, hr, rfl, by simp⟩)
      · exact .inr (.inl ⟨rfl, by simp⟩)
    · exact .inl rfl

/-- All that a POLL round can do. -/
theorem pollEvent_cases (s : State) :
    pollEvent s = readEvent 8 s ∨
      pollEvent s = { readEvent 8 s with schedule := .core :: .host .poll :: s.schedule } := by
  unfold pollEvent
  simp only [regOffset]
  split
  · exact .inr rfl
  · exact .inl rfl

/-- All that one step can answer with a next state: the instruction its turn issues, an idle core
turn, or a host event. -/
theorem step_next_cases (s t : State) (h : step s = .next t) :
    (∃ i, fetch s = some i ∧ exec i (advance s) = .next t) ∨
      (fetch s = none ∧ nextTurn s = .core ∧ t = advance s) ∨
      ∃ e, fetch s = none ∧ nextTurn s = .host e ∧ hostEvent e (advance s) = .next t := by
  unfold step at h
  split at h
  · next i hi => exact .inl ⟨i, hi, h⟩
  · next hn =>
    cases ht : nextTurn s with
    | core =>
      rw [ht] at h
      exact .inr (.inl ⟨hn, rfl, by simpa [otherTurn] using h.symm⟩)
    | host e =>
      rw [ht] at h
      exact .inr (.inr ⟨e, hn, rfl, h⟩)

/-- What a core turn issues. -/
theorem fetch_core (s : State) (h : nextTurn s = .core) : fetch s = microOf s.phase := by
  unfold fetch fetchCode
  rw [h]
  cases s.phase <;> rfl

/-- What a host turn issues. -/
theorem fetch_host (s : State) (e : HostEvent) (i : Instr) (h : nextTurn s = .host e)
    (hf : fetch s = some i) :
    ∃ off w, e = .write off w ∧ regAt off = some .cmd ∧ decodeCommand w = .ok i := by
  unfold fetch fetchCode at hf
  rw [h] at hf
  cases e with
  | write off w =>
    simp only at hf
    split at hf
    · cases hf
    · next c hc =>
      split at hc
      · next hr =>
        simp only [Option.some.injEq] at hc
        subst hc
        simp only [decode] at hf
        split at hf
        · next j hj =>
          simp only [Option.some.injEq] at hf
          exact ⟨off, w, rfl, hr, hf ▸ hj⟩
        · cases hf
      · cases hc
  | read | poll | storeBegin | store | reset | irregular | duringReset => simp at hf

end Sys2Proof.Machine
end

