-- ==== Sys2Proof/Laws/PerInstr.lean ====
section
/-! SUPPORT. Laws stated for every instruction, one lemma per constructor of `Instr`. -/

namespace Sys2Proof.Laws

/-- The encoding keeps to its format (30_encoding.md R80, R82, R87): a command's word has RSV = 0 and the
OP of a command, a micro-operation's code is neither 0 (IDLE) nor 15 (reserved). -/
def EncodesByFormat.Statement (i : Instr) : Prop :=
  match encode i with
  | .command w => i.isCommand = true ∧ rsvField w = 0 ∧ opField w ∈ ([1, 2, 3, 4] : List (BitVec 4))
  | .phase c => i.isCommand = false ∧ c ≠ 0 ∧ c ≠ 15

theorem EncodesByFormat.digest (ds dk : Bool) :
    EncodesByFormat.Statement (.digest ds dk) := by
  cases ds <;> cases dk <;> exact ⟨rfl, rfl, by decide⟩

theorem EncodesByFormat.fixed64 (ds dk : Bool) :
    EncodesByFormat.Statement (.fixed64 ds dk) := by
  cases ds <;> cases dk <;> exact ⟨rfl, rfl, by decide⟩

theorem EncodesByFormat.fixed32 (ds dk : Bool) :
    EncodesByFormat.Statement (.fixed32 ds dk) := by
  cases ds <;> cases dk <;> exact ⟨rfl, rfl, by decide⟩

theorem EncodesByFormat.clrstat : EncodesByFormat.Statement .clrstat := ⟨rfl, rfl, by decide⟩

theorem EncodesByFormat.seed : EncodesByFormat.Statement .seed := ⟨rfl, by decide, by decide⟩

theorem EncodesByFormat.dispatch : EncodesByFormat.Statement .dispatch := ⟨rfl, by decide, by decide⟩

theorem EncodesByFormat.empty : EncodesByFormat.Statement .empty := ⟨rfl, by decide, by decide⟩

theorem EncodesByFormat.tiny : EncodesByFormat.Statement .tiny := ⟨rfl, by decide, by decide⟩

theorem EncodesByFormat.short : EncodesByFormat.Statement .short := ⟨rfl, by decide, by decide⟩

theorem EncodesByFormat.block : EncodesByFormat.Statement .block := ⟨rfl, by decide, by decide⟩

theorem EncodesByFormat.fold : EncodesByFormat.Statement .fold := ⟨rfl, by decide, by decide⟩

theorem EncodesByFormat.tail1 : EncodesByFormat.Statement .tail1 := ⟨rfl, by decide, by decide⟩

theorem EncodesByFormat.tail2 : EncodesByFormat.Statement .tail2 := ⟨rfl, by decide, by decide⟩

theorem EncodesByFormat.last : EncodesByFormat.Statement .last := ⟨rfl, by decide, by decide⟩

theorem EncodesByFormat.final : EncodesByFormat.Statement .final := ⟨rfl, by decide, by decide⟩

theorem EncodesByFormat.out : EncodesByFormat.Statement .out := ⟨rfl, by decide, by decide⟩

theorem EncodesByFormat.fix8 : EncodesByFormat.Statement .fix8 := ⟨rfl, by decide, by decide⟩

theorem EncodesByFormat.fix4 : EncodesByFormat.Statement .fix4 := ⟨rfl, by decide, by decide⟩

end Sys2Proof.Laws
end

