-- ==== Sys2Proof/Laws/Sequencer.lean ====
section
/-! SUPPORT. The sequencer's control agrees with the meanings of the micro-operations, and what the look
ahead for stores says. -/

namespace Sys2Proof.Machine

/-- What a control step does where no byte is refused. -/
theorem controlStep_readable (s : State) (i : Instr) (hi : microOf s.phase = some i)
    (hr : Readable s (readSet i s)) :
    controlStep s = { s with phase := successor s, i := countAfter s } := by
  simp [controlStep, hi, (refusedIn_none_iff s _).2 hr]

/-- What a control step does where a byte is refused. -/
theorem controlStep_refused (s : State) (i : Instr) (a : Nat) (hi : microOf s.phase = some i)
    (hr : LowestRefused s (readSet i s) a) : controlStep s = { s with phase := .idle } := by
  simp [controlStep, hi, (refusedIn_some_iff s _ a).2 hr]

/-- A core step takes phase and count where `controlStep` says, on to the successor or, where a byte is
refused, to IDLE (43_block_loop.md R147). -/
theorem exec_control (s t : State) (i : Instr) (hi : microOf s.phase = some i)
    (h : exec i s = .next t) :
    t.phase = (controlStep s).phase ∧ (t.phase ≠ .idle → t.i = (controlStep s).i) := by
  have read : ∀ offs r, offs = readSet i s → r.phase = successor s → r.i = countAfter s →
      readStep offs r s = .next t →
      t.phase = (controlStep s).phase ∧ (t.phase ≠ .idle → t.i = (controlStep s).i) := by
    rintro offs r rfl hp hc h
    rcases readStep_next _ _ _ _ h with ⟨hr, rfl⟩ | ⟨a, hr, rfl⟩
    · rw [controlStep_readable s i hi hr]; exact ⟨hp, fun _ => hc⟩
    · rw [controlStep_refused s i a hi hr]; simp
  have quiet : readSet i s = [] → t.phase = successor s → t.i = countAfter s →
      t.phase = (controlStep s).phase ∧ (t.phase ≠ .idle → t.i = (controlStep s).i) := by
    intro hr hp hc
    rw [controlStep_readable s i hi (by rw [hr]; intro j hj; cases hj)]
    exact ⟨hp, fun _ => hc⟩
  cases hp : s.phase <;> rw [hp] at hi <;>
    simp only [microOf, Option.some.injEq, reduceCtorEq] at hi <;> subst hi <;>
    simp only [exec] at h
  case tiny | short | last | tail1 | tail2 | block =>
    exact read _ _ rfl (by simp [successor, hp]) (by simp [countAfter, hp]) h
  case dispatch =>
    unfold execDispatch at h
    split_ifs at h <;> cases h <;>
      exact quiet rfl (by simp [successor, afterDispatch, *])
        (by simp only [countAfter, hp]; first | rw [if_pos (by omega)] | rw [if_neg (by omega)])
  all_goals
    simp only [execSeed, execEmpty, execFold, execFinal, execOut, execFix8, execFix4] at h
    cases h
    exact quiet rfl (by simp [successor, hp]) (by simp [countAfter, hp])

/-- No turn that stores to `a`: no store to `a` is ahead. -/
theorem storeAhead_of_none (a : Nat) (ts : List Turn) (s : State)
    (h : ts.any (storesTo a) = false) : storeAhead a ts s = false := by
  induction ts generalizing s with
  | nil => rfl
  | cons x ts ih =>
    simp only [List.any_cons, Bool.or_eq_false_iff] at h
    cases x with
    | core => simp [storeAhead, ih _ h.2]
    | host e => cases e <;> simp_all [storeAhead, storesTo]

/-- With the host quiet at an address and no store to it since the accept, a read there is stable. -/
theorem unstable_of_quiet (s : State) (lo n j : Nat) (hq : Quiet s lo n) (hj : j < n)
    (hr : s.racing.elem (lo + j) = false) : unstable s (lo + j) = false := by
  obtain ⟨h1, h2, h3⟩ := hq j hj
  have h4 : storeAhead (lo + j) (.core :: s.schedule) s = false :=
    storeAhead_of_none _ _ _ (by simpa [storesTo] using h3)
  unfold unstable
  rw [hr, h1, h2, h4]
  rfl

end Sys2Proof.Machine
end

