-- ==== Sys2Proof/Tests/Slice0.lean ====
section
/-! SUPPORT. Tests: the well-formedness checks refuse what is ill-formed; every encoding, written out from
30_encoding.md, decodes; one step of each instruction gives what the spec's worked examples say; and for
each statement with hypotheses a concrete case that meets them. -/

namespace Sys2Proof.Tests

open Sys2Proof Sys2Proof.Machine

/-! ### Well-formedness -/

theorem test_wf_rejects_addr_width_zero : (Config.wf { Config.default with addrWidth := 0 }) = false := by
  decide

theorem test_wf_rejects_addr_width_65 : (Config.wf { Config.default with addrWidth := 65 }) = false := by
  decide

theorem test_wf_accepts_addr_width_ends :
    (Config.wf { Config.default with addrWidth := 1 }) = true ∧
      (Config.wf { Config.default with addrWidth := 64 }) = true := by decide

theorem test_wf_rejects_misaligned_offset : offsetWf 0x0c = false ∧ offsetWf 0x08 = true := by decide

theorem test_wf_rejects_misaligned_write :
    HostEvent.wf Config.default (.write 0x11 0) = false := by decide

theorem test_wf_rejects_misaligned_read : HostEvent.wf Config.default (.read 0xff) = false := by decide

theorem test_wf_rejects_store_outside_memory :
    HostEvent.wf Config.default (.store (2 ^ 64) 1) = false ∧
      HostEvent.wf Config.default (.storeBegin (2 ^ 64)) = false := by decide

theorem test_wf_rejects_narrow_access : HostEvent.wf Config.default (.irregular 32 0x08) = false := by decide

theorem test_wf_rejects_access_during_reset :
    HostEvent.wf Config.default (.duringReset 0x08) = false := by decide

theorem test_wf_rejects_host_micro_operation : HostLine.wf (.cmd .final) = false := by decide

/-! ### Decoding: every word written out from 30_encoding.md R82, R83, R86, R91 -/

theorem test_decode_digest : decode (.command 0b000001) = .ok (.digest false false) := by rfl

theorem test_decode_digest_ds_dk : decode (.command 0b110001) = .ok (.digest true true) := by rfl

theorem test_decode_fixed64_ds : decode (.command 0b010010) = .ok (.fixed64 true false) := by rfl

theorem test_decode_fixed32_dk : decode (.command 0b100011) = .ok (.fixed32 false true) := by rfl

theorem test_decode_clrstat : decode (.command 0b000100) = .ok .clrstat := by rfl

theorem test_decode_seed : decode (.phase 0b0001) = .ok .seed := by rfl

theorem test_decode_dispatch : decode (.phase 0b0010) = .ok .dispatch := by rfl

theorem test_decode_empty : decode (.phase 0b0011) = .ok .empty := by rfl

theorem test_decode_tiny : decode (.phase 0b0100) = .ok .tiny := by rfl

theorem test_decode_short : decode (.phase 0b0101) = .ok .short := by rfl

theorem test_decode_block : decode (.phase 0b0110) = .ok .block := by rfl

theorem test_decode_fold : decode (.phase 0b0111) = .ok .fold := by rfl

theorem test_decode_tail1 : decode (.phase 0b1000) = .ok .tail1 := by rfl

theorem test_decode_tail2 : decode (.phase 0b1001) = .ok .tail2 := by rfl

theorem test_decode_last : decode (.phase 0b1010) = .ok .last := by rfl

theorem test_decode_final : decode (.phase 0b1011) = .ok .final := by rfl

theorem test_decode_out : decode (.phase 0b1100) = .ok .out := by rfl

theorem test_decode_fix8 : decode (.phase 0b1101) = .ok .fix8 := by rfl

theorem test_decode_fix4 : decode (.phase 0b1110) = .ok .fix4 := by rfl

theorem test_decode_rejects_reserved :
    decode (.command 0) = .error (.reservedOp 0) ∧ decode (.command 0x0f) = .error (.reservedOp 15) ∧
      decode (.command 0x24) = .error .clrstatOperand ∧
      decode (.command 0x8000000000000031) = .error .reservedBits ∧
      decode (.phase 0) = .error .idle ∧ decode (.phase 0xf) = .error .reservedPhase :=
  ⟨rfl, rfl, rfl, rfl, rfl, rfl⟩

theorem test_decode_table_word :
    decodeTableWord 64 0x31 = some (.digest true true) ∧ decodeTableWord 64 0x05 = none ∧
      decodeTableWord 8 0x06 = some .block ∧ decodeTableWord 4 0x0f = none := ⟨rfl, rfl, rfl, rfl⟩

/-! ### One step: the spec's worked examples -/

/-- A field of the state an outcome gives. -/
def field {α : Type} (f : State → α) : Host.Outcome State Fault Refusal → Option α
  | .next t => some (f t)
  | .fault _ => none
  | .refused _ => none

/-- The `n` bytes 0, 1, 2, … stored at 0x1000 (`seq(n)` of 95_test_vectors.md). -/
def seqMem (n : Nat) : Memory := Memory.writeAll [] 0x1000 ((List.range n).map (BitVec.ofNat 8))

/-- A DIGEST command in progress at a phase, with defaults, over `n` bytes at 0x1000. -/
def running (p : Phase) (n : Nat) (seedw : Word) : State :=
  { State.reset with
    busy := true, phase := p, lw := BitVec.ofNat 64 n, base := 0x1000, mem := seqMem n, seedw := seedw
    s0 := 0x2d358dccaa6c78a5, s1 := 0x8bb84b93962eacc9, s2 := 0x4b33a62ed433d4a3 }

/-- V19: `W 0x00 0x31` leaves STATUS = 0x101. -/
theorem test_digest_accepts :
    field statusWord (exec (.digest true true) State.reset) = some 0x101 ∧
      field (fun t => (t.seedw, t.s0, t.s2, t.lw))
          (exec (.digest false true) { State.reset with seed := 5, secret0 := 6, len := 7 }) =
        some (5, 0x2d358dccaa6c78a5, 0x4b33a62ed433d4a3, 7) := ⟨rfl, rfl⟩

/-- V20: a second DIGEST while busy is dropped. -/
theorem test_digest_while_busy :
    field (fun t => (statusWord t, t.errinfo, t.seedw)) (exec (.digest true true) (running .seed 0 9)) =
      some (0x109, 0, 9) := by rfl

theorem test_fixed64_accepts :
    field (fun t => (t.kind, t.lw, t.vw)) (exec (.fixed64 true true) { State.reset with value := 7 }) =
      some (.fixed64, 8, 7) := by rfl

theorem test_fixed32_accepts :
    field (fun t => (t.kind, t.lw, t.s1)) (exec (.fixed32 true false) { State.reset with secret1 := 7 }) =
      some (.fixed32, 4, 7) := by rfl

/-- V19: CLRSTAT after a completed command. -/
theorem test_clrstat_clears :
    field (fun t => (statusWord t, t.errinfo, t.digest))
        (exec .clrstat { State.reset with done := true, illegal := true, errinfo := 5, digest := 3 }) =
      some (0, 0, 3) := by rfl

/-- R120: the derived seed of the empty input. -/
theorem test_seed_derives :
    field (fun t => (t.seedw, t.phase)) (exec .seed (running .seed 0 0xbdd89aa982704029)) =
      some (0x763305bbe7bea536, .dispatch) := by rfl

/-- R140: the derived seed for L = 49. -/
theorem test_seed_uses_length :
    field (fun t => t.seedw) (exec .seed (running .seed 49 0xbdd89aa982704029)) =
      some 0x763305bbe7bea507 := by rfl

/-- R122: L = 49 loops. -/
theorem test_dispatch_49 :
    field (fun t => (t.i, t.see1, t.see2, t.phase)) (exec .dispatch (running .dispatch 49 11)) =
      some (49, 11, 11, .block) := by rfl

/-- R122: L = 48 does not loop. -/
theorem test_dispatch_48 :
    field (fun t => (t.i, t.see1, t.phase)) (exec .dispatch (running .dispatch 48 11)) =
      some (48, 0, .tail1) := by rfl

theorem test_empty_clears :
    field (fun t => (t.a, t.b, t.phase)) (exec .empty { running .empty 0 0 with a := 3, b := 4 }) =
      some (0, 0, .final) := by rfl

/-- R126: the input "abc". -/
theorem test_tiny_abc :
    field (fun t => (t.a, t.b, t.phase))
        (exec .tiny { running .tiny 3 0 with mem := Memory.writeAll [] 0x1000 [0x61, 0x62, 0x63] }) =
      some (0x636261, 0, .final) := by decide

/-- V20: SRC = 0x1ffe, LEN = 3 with memory below 0x2000 only. -/
theorem test_tiny_refused :
    field (fun t => (statusWord t, t.errinfo))
        (exec .tiny { running .tiny 3 0 with
          base := 0x1ffe, cfg := { Config.default with admits := [⟨0, 0x2000⟩] } }) =
      some (0x10, 0x2000) := by decide

/-- R129: the input 0x00 .. 0x07. -/
theorem test_short_seq8 :
    field (fun t => (t.a, t.b)) (exec .short (running .short 8 0)) =
      some (0x0302010007060504, 0x0706050403020100) := by decide

/-- V20: SRC = 0xfffffffffffffff8, LEN = 16: the lowest refused address is 2^64, recorded as 0. -/
theorem test_short_refused_at_the_top :
    field (fun t => (statusWord t, t.errinfo))
        (exec .short { running .short 16 0 with base := 0xfffffffffffffff8 }) = some (0x10, 0) := by decide

/-- R140: one block of the input 0x00 .. 0x30. -/
theorem test_block_seq49 :
    field (fun t => (t.seedw, t.see1, t.see2, t.i, t.phase))
        (exec .block { running .block 49 0x763305bbe7bea507 with
          i := 49, see1 := 0x763305bbe7bea507, see2 := 0x763305bbe7bea507 }) =
      some (0xdeb78702953012eb, 0xb94c5018a47f7512, 0xda3eb64e99e6ae8c, 1, .fold) := by decide

/-- R142: the fold that follows. -/
theorem test_fold_seq49 :
    field (fun t => (t.seedw, t.phase))
        (exec .fold { running .fold 49 0xdeb78702953012eb with
          i := 1, see1 := 0xb94c5018a47f7512, see2 := 0xda3eb64e99e6ae8c }) =
      some (0xbdc56154a8a9c975, .last) := by rfl

/-- R143: the first tail mix of the input 0x00 .. 0x20. -/
theorem test_tail1_seq33 :
    field (fun t => (t.seedw, t.phase))
        (exec .tail1 { running .tail1 33 0x763305bbe7bea517 with i := 33 }) =
      some (0xe0f62d9f3fdbef34, .tail2) := by decide

/-- R144: the second tail mix that follows. -/
theorem test_tail2_seq33 :
    field (fun t => (t.seedw, t.phase))
        (exec .tail2 { running .tail2 33 0xe0f62d9f3fdbef34 with i := 33 }) =
      some (0x7a8ac578da0509eb, .last) := by decide

/-- R145: the last 16 bytes of the input 0x00 .. 0x30. -/
theorem test_last_seq49 :
    field (fun t => (t.a, t.b, t.phase)) (exec .last (running .last 49 0)) =
      some (0x2827262524232221, 0x302f2e2d2c2b2a29, .final) := by decide

/-- R160: the empty input. -/
theorem test_final_empty :
    field (fun t => (t.a, t.b, t.phase)) (exec .final (running .final 0 0x763305bbe7bea536)) =
      some (0x3526c94e5f63ff66, 0x4082cbae3d34ded4, .out) := by rfl

/-- R162: the digest of the empty input. -/
theorem test_out_empty :
    field (fun t => (t.digest, statusWord t))
        (exec .out { running .out 0 0 with a := 0x3526c94e5f63ff66, b := 0x4082cbae3d34ded4 }) =
      some (0x64bf377fe411e8e7, 0x2) := by rfl

/-- R170: v = 0x0706050403020100. -/
theorem test_fix8 :
    field (fun t => (t.a, t.b, t.phase)) (exec .fix8 { running .fix8 8 0 with vw := 0x0706050403020100 }) =
      some (0x0302010007060504, 0x0706050403020100, .final) := by rfl

/-- R171: the bytes "abcd", with a VALUE whose upper half is not read. -/
theorem test_fix4 :
    field (fun t => (t.a, t.b, t.phase)) (exec .fix4 { running .fix4 4 0 with vw := 0xdeadbeef64636261 }) =
      some (0x6463626164636261, 0x6463626164636261, .final) := by rfl

/-- V20: `W 0x00 0x05` from reset. -/
theorem test_step_illegal_word :
    field (fun t => (statusWord t, t.errinfo))
        (step { State.reset with schedule := [.host (.write 0x00 0x05)] }) = some (0x04, 0x05) := by rfl

/-- V20: `W 0x00 0x14` after it keeps the first record. -/
theorem test_step_second_error_keeps_record :
    field (fun t => (statusWord t, t.errinfo))
        (step { State.reset with
          illegal := true, errinfo := 5, schedule := [.host (.write 0x00 0x14)] }) =
      some (0x04, 0x05) := by rfl

/-- V19: SRC with ADDR_WIDTH = 32 keeps its low 32 bits. -/
theorem test_step_write_src :
    field (fun t => t.src)
        (step { State.reset with
          cfg := { Config.default with addrWidth := 32 }
          schedule := [.host (.write 0x20 0xffffffff12345678)] }) = some 0x12345678 := by rfl

/-- V19: CONFIG of three other builds. -/
theorem test_config_words :
    configWord { Config.default with addrWidth := 32 } = 0x0000100800082000 ∧
      configWord { Config.default with mixMode := .accumulate } = 0x0000100800084001 ∧
      configWord { Config.default with
          tinyShifts := ⟨56, 32, 0⟩, finalBSecret := 1, blockLoopInclusive := true,
          finalMulFollowsMode := true } = 0x0000002038074000 := ⟨rfl, rfl, rfl⟩

/-- R102: the example in both modes. -/
theorem test_mix_example :
    mix .overwrite 0x0123456789abcdef 0xfedcba9876543210 = 0x2317228f48165bb2 ∧
      mix .accumulate 0x0123456789abcdef 0xfedcba9876543210 = 0xdce8dd70b7e9a44d := ⟨rfl, rfl⟩

/-- R73: in a command at LAST, a store that the schedule brings before the command ends frees the read; one
that comes after OUT does not. -/
theorem test_store_ahead_frees_earlier_read :
    inputByte { running .last 17 0 with schedule := [.core, .host (.store 0x1001 7)] } 3 0x1001 =
        Config.freeByte 0 3 ∧
      unstable { running .last 17 0 with schedule := [.core, .host (.store 0x1001 7)] } 0x1002 = false ∧
      unstable { running .last 17 0 with schedule := [.core, .core, .host (.store 0x1001 7)] } 0x1001 =
        false := ⟨rfl, rfl, rfl⟩

/-- R69: memory with read side effects gives a free byte at each end of its range and not past it. -/
theorem test_volatile_read_is_free :
    let s := { running .last 17 0 with cfg := { Config.default with volatile := [⟨0x1001, 2⟩] } };
    inputByte s 0 0x1001 = Config.freeByte 0 0 ∧ inputByte s 1 0x1002 = Config.freeByte 0 1 ∧
      inputByte s 0 0x1000 = 0 ∧ inputByte s 3 0x1003 = 3 := ⟨rfl, rfl, rfl, rfl⟩

/-! ### Witnesses: the hypotheses of the statements can be met -/

theorem witness_StepRunsTheIssuedInstruction :
    (let s := running .fold 49 0;
      (s.schedule = [] ∨ s.schedule.head? = some .core) ∧ decode (.phase s.phase.code) = .ok .fold) ∧
    (let s := { running .out 49 0 with schedule := [.core] };
      (s.schedule = [] ∨ s.schedule.head? = some .core) ∧ decode (.phase s.phase.code) = .ok .out) ∧
    (let s := { State.reset with schedule := [.host (.write 0x00 0x31)] };
      s.schedule.head? = some (.host (.write 0x00 0x31)) ∧
        decode (.command 0x31) = .ok (.digest true true)) :=
  ⟨⟨.inl rfl, rfl⟩, ⟨.inr rfl, rfl⟩, ⟨rfl, rfl⟩⟩

theorem witness_IdleCoreTurnChangesNothing :
    ((State.reset.schedule = [] ∨ State.reset.schedule.head? = some .core) ∧ State.reset.phase = .idle) ∧
    (let s := { State.reset with schedule := [.core, .host .reset] };
      (s.schedule = [] ∨ s.schedule.head? = some .core) ∧ s.phase = .idle) :=
  ⟨⟨.inl rfl, rfl⟩, ⟨.inr rfl, rfl⟩⟩

theorem witness_PlacedInstructionRunsNext :
    (decodeTableWord 9 0x31 = some (.digest true true) ∧ 8 < 9) ∧
    (decodeTableWord 64 0x04 = some .clrstat ∧ 8 < 64) ∧
    (decodeTableWord 8 1 = some .seed ∧ 8 ≤ 8) ∧ (decodeTableWord 4 14 = some .fix4 ∧ 4 ≤ 8) :=
  ⟨⟨rfl, by decide⟩, ⟨rfl, by decide⟩, ⟨rfl, by decide⟩, ⟨rfl, by decide⟩⟩

theorem witness_DigestCommandsLatchTheirOperands : State.reset.busy = false := by rfl

theorem witness_ClrstatClearsTheStatus :
    { State.reset with done := true, wbusy := true }.busy = false := by rfl

theorem witness_WritesWhileBusyAreDropped :
    (let s := { running .seed 0 0 with schedule := [.host (.write 0x40 7)] };
      s.busy = true ∧ (0x40 : Offset) ∈ ([0x00, 0x10, 0x18, 0x20, 0x28, 0x30, 0x38, 0x40] : List Offset) ∧
        s.schedule.head? = some (.host (.write 0x40 7))) ∧
    (let s := { running .out 0 0 with schedule := [.host (.write 0x00 0x31)] };
      s.busy = true ∧ (0x00 : Offset) ∈ ([0x00, 0x10, 0x18, 0x20, 0x28, 0x30, 0x38, 0x40] : List Offset) ∧
        s.schedule.head? = some (.host (.write 0x00 0x31))) ∧
    ((running .seed 0 0).busy = true ∧ Instr.isCommand .clrstat = true) :=
  ⟨⟨rfl, by decide, rfl⟩, ⟨rfl, by decide, rfl⟩, ⟨rfl, rfl⟩⟩

theorem witness_IllegalWordsAreReported :
    let s := { State.reset with schedule := [.host (.write 0x00 0x05)] };
    s.busy = false ∧
      (0x05 : Word) ∉ ([0x01, 0x11, 0x21, 0x31, 0x02, 0x12, 0x22, 0x32, 0x03, 0x13, 0x23, 0x33, 0x04] :
        List Word) ∧
      s.schedule.head? = some (.host (.write 0x00 0x05)) :=
  ⟨rfl, by decide, rfl⟩

/-- A state whose next turn is a host write. -/
def writing (busy : Bool) (off : Offset) : State :=
  { State.reset with busy := busy, schedule := [.host (.write off 7)] }

theorem witness_RegisterWritesTakeEffectOrAreIgnored :
    (∀ off ∈ ([0x10, 0x18, 0x20, 0x28, 0x30, 0x38, 0x40] : List Offset),
      (writing false off).schedule.head? = some (.host (.write off 7)) ∧ (writing false off).busy = false ∧
      (writing true off).schedule.head? = some (.host (.write off 7)) ∧ (writing true off).busy = true) ∧
    ((writing false 0x58).schedule.head? = some (.host (.write 0x58 7)) ∧
      (0x58 : Offset) ∈ ([0x08, 0x48, 0x50, 0x58] : List Offset)) ∧
    ((writing true 0x60).schedule.head? = some (.host (.write 0x60 7)) ∧
      0x60 ≤ (0x60 : Offset).toNat ∧ (0x60 : Offset).toNat % 8 = 0) ∧
    ((writing true 0xf8).schedule.head? = some (.host (.write 0xf8 7)) ∧
      0x60 ≤ (0xf8 : Offset).toNat ∧ (0xf8 : Offset).toNat % 8 = 0) :=
  ⟨fun _ _ => ⟨rfl, rfl, rfl, rfl⟩, ⟨rfl, by decide⟩, ⟨rfl, by decide, rfl⟩, ⟨rfl, by decide, rfl⟩⟩

/-- A state whose next turn is a host read. -/
def reading (off : Offset) : State := { State.reset with schedule := [.host (.read off)] }

theorem witness_RegisterReadsChangeNothing :
    ∀ off ∈ ([0x00, 0x08, 0x10, 0x18, 0x20, 0x28, 0x30, 0x38, 0x40, 0x48, 0x50, 0x58, 0x60, 0xf8] :
      List Offset),
      off.toNat % 8 = 0 ∧ (reading off).schedule.head? = some (.host (.read off)) := by
  intro off h
  refine ⟨?_, rfl⟩
  revert off
  decide

theorem witness_ConfigReadsItsFields :
    Config.default.wf = true ∧ Config.wf { Config.default with addrWidth := 1 } = true := ⟨rfl, rfl⟩

theorem witness_UnspecifiedAccessesAreRefused :
    ((0xff : Offset).toNat % 8 ≠ 0 ∧ (writing false 0xff).schedule.head? = some (.host (.write 0xff 7))) ∧
    ((0x01 : Offset).toNat % 8 ≠ 0 ∧ (reading 0x01).schedule.head? = some (.host (.read 0x01))) ∧
    { State.reset with schedule := [.host (.irregular 32 0x08)] }.schedule.head? =
      some (.host (.irregular 32 0x08)) ∧
    { State.reset with schedule := [.host (.duringReset 0x08)] }.schedule.head? =
      some (.host (.duringReset 0x08)) :=
  ⟨⟨by decide, rfl⟩, ⟨by decide, rfl⟩, rfl, rfl⟩

theorem witness_PollComesRoundWhileBusy :
    { running .seed 0 0 with schedule := [.host .poll] }.schedule = .host .poll :: [] := by rfl

theorem witness_ResetReadsTheResetValues :
    (0x60 ≤ (0x60 : Offset).toNat ∧ (0x60 : Offset).toNat % 8 = 0) ∧
    (0x60 ≤ (0xf8 : Offset).toNat ∧ (0xf8 : Offset).toNat % 8 = 0) := by decide

theorem witness_ResetEventRestoresTheRegisters :
    { running .seed 0 0 with schedule := [.host .reset] }.schedule.head? = some (.host .reset) := by rfl

theorem witness_InputBytesComeFromBasePlusOffset :
    let s := running .tiny 3 0;
    (0 < s.lw.toNat ∧ unstable s (s.base.toNat + 0) = false) ∧
    (2 < s.lw.toNat ∧ unstable s (s.base.toNat + 2) = false) ∧ s.lw.toNat ≤ 3 :=
  ⟨⟨by decide, rfl⟩, ⟨by decide, rfl⟩, by decide⟩

theorem witness_ReadingBytesLeReturnsTheValue :
    (∀ k, k < 8 → some (byte (running .short 8 0) (0 + k) (0 + k)) =
      (bytesLe 0x0706050403020100 8)[k]?) ∧
    (∀ k, k < 4 → some (byte (running .short 8 0) (4 + k) (4 + k)) = (bytesLe 0x07060504 4)[k]?) := by
  decide

theorem witness_WindowsAreLittleEndian : 0 < 8 ∧ 7 < 8 ∧ 0 < 4 ∧ 3 < 4 := by decide

theorem witness_StoredBytesReadBack : Memory.wf (seqMem 4) = true := by decide

theorem witness_NoInstructionWritesMemory :
    exec .empty State.reset = .next { State.reset with phase := .final } := by rfl

/-- A state whose next turn is a host event. -/
def hostTurn (busy : Bool) (e : HostEvent) : State :=
  { State.reset with busy := busy, schedule := [.host e] }

/-- An accepted DIGEST command over 49 bytes, before SEED. -/
def accepted : State := { running .seed 49 0xbdd89aa982704029 with mem := [] }

theorem accepted_inv (p : Phase) (ts : List Turn) (h : phaseFacts { accepted with phase := p, i := 49 } p)
    (hp : p ≠ .idle) : Inv { accepted with phase := p, i := 49, schedule := ts } where
  cfg_wf := rfl
  busy_iff := ⟨fun _ => hp, fun _ => rfl⟩
  done_idle := nofun
  src_width := (by decide : (0 : Word).toNat < 2 ^ 64)
  base_width := (by decide : (0x1000 : Word).toNat < 2 ^ 64)
  errinfo_clear := fun _ => rfl
  len_kind := fun _ => ⟨nofun, nofun⟩
  phase_facts := h
  mem_wf := rfl
  mem_range := nofun

/-- An accepted command at LAST, with a turn to come after the core's. -/
def beforeLast (e : HostEvent) : State :=
  { accepted with phase := .last, i := 49, schedule := [.core, .host e] }

theorem beforeLast_run (e : HostEvent) :
    Inv (beforeLast e) ∧ (beforeLast e).schedule.head? = some .core ∧ (beforeLast e).busy = true ∧
      ∃ u, Sys2Proof.core.run 1 (beforeLast e) = .next u ∧ u.busy = true ∧
        0x1021 < 2 ^ u.cfg.addrWidth ∧ u.schedule.head? = some (.host e) := by
  refine ⟨accepted_inv .last _ ⟨rfl, by decide⟩ (by decide), rfl, rfl, _, rfl, rfl, ?_, rfl⟩
  exact (by decide : 0x1021 < 2 ^ 64)

theorem witness_HostStoresDuringACommandRace :
    ((hostTurn true (.store 5 1)).mem.wf = true ∧ 5 < 2 ^ (hostTurn true (.store 5 1)).cfg.addrWidth ∧
      (hostTurn true (.store 5 1)).schedule.head? = some (.host (.store 5 1)) ∧
      (hostTurn true (.store 5 1)).busy = true ∧ (hostTurn false (.store 5 1)).busy = false) ∧
    (2 ^ 64 - 1 < 2 ^ (hostTurn true (.storeBegin (2 ^ 64 - 1))).cfg.addrWidth ∧
      (hostTurn true (.storeBegin (2 ^ 64 - 1))).schedule.head? = some (.host (.storeBegin (2 ^ 64 - 1)))) ∧
    (2 ^ (hostTurn true (.store (2 ^ 64) 1)).cfg.addrWidth ≤ 2 ^ 64 ∧
      (hostTurn true (.store (2 ^ 64) 1)).schedule.head? = some (.host (.store (2 ^ 64) 1)) ∧
      (hostTurn true (.storeBegin (2 ^ 64))).schedule.head? = some (.host (.storeBegin (2 ^ 64)))) ∧
    (7 ∈ { State.reset with racing := [7] }.racing) ∧ (7 ∈ { State.reset with inFlight := [7] }.inFlight) ∧
    (let c := { Config.default with volatile := [⟨7, 2⟩] };
      (∃ r ∈ c.volatile, r.base ≤ 7 ∧ 7 < r.base + r.size) ∧
        ∃ r ∈ c.volatile, r.base ≤ 8 ∧ 8 < r.base + r.size) ∧
    storeAhead 0x1021 (.core :: [.host (.store 0x1021 1)]) (beforeLast .poll) = true ∧
    (let s := beforeLast (.store 0x1021 1);
      Inv s ∧ s.schedule.head? = some .core ∧
        (∀ m, m ≤ 1 → ∃ w, Sys2Proof.core.run m s = .next w ∧ w.busy = true) ∧
        ∃ u, Sys2Proof.core.run 1 s = .next u ∧ 0x1021 < 2 ^ u.cfg.addrWidth ∧
          ∃ v, u.schedule.head? = some (.host (.store 0x1021 v))) ∧
    (let s := beforeLast (.storeBegin 0x1021);
      Inv s ∧ s.schedule.head? = some .core ∧
        (∀ m, m ≤ 1 → ∃ w, Sys2Proof.core.run m s = .next w ∧ w.busy = true) ∧
        ∃ u, Sys2Proof.core.run 1 s = .next u ∧ 0x1021 < 2 ^ u.cfg.addrWidth ∧
          u.schedule.head? = some (.host (.storeBegin 0x1021))) := by
  have busy (e : HostEvent) : ∀ m, m ≤ 1 →
      ∃ w, Sys2Proof.core.run m (beforeLast e) = .next w ∧ w.busy = true := by
    obtain ⟨_, _, h0, u, hu, hb, _⟩ := beforeLast_run e
    rintro (_ | _ | m) hm
    · exact ⟨_, rfl, h0⟩
    · exact ⟨u, hu, hb⟩
    · omega
  refine ⟨⟨rfl, by decide, rfl, rfl, rfl⟩, ⟨by decide, rfl⟩, ⟨by decide, rfl, rfl⟩, by decide, by decide,
    by decide, rfl, ?_, ?_⟩
  · obtain ⟨hI, hh, _, u, hu, _, hp, hs⟩ := beforeLast_run (.store 0x1021 1)
    exact ⟨hI, hh, busy _, u, hu, hp, 1, hs⟩
  · obtain ⟨hI, hh, _, u, hu, _, hp, hs⟩ := beforeLast_run (.storeBegin 0x1021)
    exact ⟨hI, hh, busy _, u, hu, hp, hs⟩

theorem witness_DerivedSeedDependsOnLengthByXor :
    (let s := running .seed 3 5;
      let t := running .seed 9 5;
      s.seedw = t.seedw ∧ s.s0 = t.s0 ∧ s.s1 = t.s1 ∧ s.cfg.mixMode = t.cfg.mixMode ∧
        (∃ s', exec .seed s = .next s') ∧ ∃ t', exec .seed t = .next t') ∧
    (let s := running .seed 49 0xbdd89aa982704029;
      s.seedw = 0xbdd89aa982704029 ∧ s.s0 = 0x2d358dccaa6c78a5 ∧ s.s1 = 0x8bb84b93962eacc9 ∧
        s.cfg.mixMode = .overwrite ∧ ∃ s', exec .seed s = .next s') :=
  ⟨⟨rfl, rfl, rfl, rfl, ⟨_, rfl⟩, _, rfl⟩, ⟨rfl, rfl, rfl, rfl, _, rfl⟩⟩

theorem witness_DispatchSelectsTheBranch :
    (running .dispatch 0 0).lw.toNat = 0 ∧
    (1 ≤ (running .dispatch 1 0).lw.toNat ∧ (running .dispatch 3 0).lw.toNat ≤ 3) ∧
    (4 ≤ (running .dispatch 4 0).lw.toNat ∧ (running .dispatch 16 0).lw.toNat ≤ 16) ∧
    (17 ≤ (running .dispatch 17 0).lw.toNat ∧ (running .dispatch 48 0).lw.toNat ≤ 48) ∧
    48 < (running .dispatch 49 0).lw.toNat := by decide

theorem witness_TinyPacksThreeBytes :
    let s := running .tiny 3 0;
    Readable s [0, s.lw.toNat >>> 1, s.lw.toNat - 1] :=
  (refusedIn_none_iff _ _).1 (by decide)

theorem witness_ShortReadsOverlappingWindows :
    let s := running .short 16 0;
    Readable s (shortReads s.lw.toNat) :=
  (refusedIn_none_iff _ _).1 (by decide)

theorem witness_ShortWindowsCoverTheInput : 4 ≤ 4 ∧ 4 ≤ 16 ∧ 4 ≤ 7 ∧ 7 ≤ 16 ∧ 4 ≤ 8 ∧ 8 ≤ 16 ∧ 16 ≤ 16 := by
  decide

theorem witness_BlockFoldsFortyEightBytes :
    let s := { running .block 49 0 with i := 49 };
    Readable s (window (s.lw.toNat - s.i.toNat) 48) :=
  (refusedIn_none_iff _ _).1 (by decide)

theorem witness_TailOneMixesSixteenBytes :
    let s := { running .tail1 33 0 with i := 33 };
    Readable s (window (s.lw.toNat - s.i.toNat) 16) :=
  (refusedIn_none_iff _ _).1 (by decide)

theorem witness_TailTwoMixesSixteenBytes :
    let s := { running .tail2 33 0 with i := 33 };
    Readable s (window (s.lw.toNat - s.i.toNat + 16) 16) :=
  (refusedIn_none_iff _ _).1 (by decide)

theorem witness_LastReadsTheFinalSixteenBytes :
    let s := running .last 17 0;
    Readable s (window (s.lw.toNat - 16) 16) :=
  (refusedIn_none_iff _ _).1 (by decide)

theorem witness_FinalMultipliesTheOperands :
    (let c := { Config.default with mixMode := .accumulate, finalMulFollowsMode := true };
      c.finalMulFollowsMode = true ∧ c.mixMode = .accumulate) ∧
    ¬(Config.default.finalMulFollowsMode = true ∧ Config.default.mixMode = .accumulate) := by decide

/-- V20, first row: memory below 0x2000 only, SRC = 0x1ff0, LEN = 32, at LAST. -/
def refusedLast : State :=
  { running .last 32 0 with base := 0x1ff0, cfg := { Config.default with admits := [⟨0, 0x2000⟩] } }

theorem witness_RefusedReadsAbortTheCommand :
    (Instr.last ∈ ([.tiny, .short, .block, .tail1, .tail2, .last] : List Instr) ∧
      LowestRefused refusedLast (readSet .last refusedLast) 0x2000) ∧
    (Instr.final ∉ ([.tiny, .short, .block, .tail1, .tail2, .last] : List Instr) ∧
      ∃ t, exec .final { State.reset with buserr := true } = .next t ∧ t.buserr = true) :=
  ⟨⟨by decide, (refusedIn_some_iff _ _ _).1 (by decide)⟩, ⟨by decide, _, rfl, rfl⟩⟩

theorem witness_MicroOperationsKeepOperandsAndSecrets :
    Instr.isCommand .fold = false ∧ ∃ t, exec .fold (running .fold 49 0) = .next t := ⟨rfl, _, rfl⟩

theorem witness_DigestIsWrittenOnlyByOut : ∃ t, step (running .out 0 0) = .next t := ⟨_, rfl⟩

theorem witness_ErrorBitsAreSticky :
    (∃ t, step { running .fold 49 0 with illegal := true, wbusy := true, buserr := true } = .next t) ∧
    (State.reset.busy = false ∧ Instr.isCommand (.digest true true) = true ∧
      Instr.digest true true ≠ .clrstat) :=
  ⟨⟨_, rfl⟩, rfl, rfl, by decide⟩

theorem witness_ErrinfoKeepsTheFirstRecord :
    ∃ t, step (hostTurn false (.write 0x00 0x05)) = .next t := ⟨_, rfl⟩

theorem witness_DefaultOperandsMatchTheRegisters :
    State.reset.seed = 0xbdd89aa982704029 ∧ State.reset.secret0 = 0x2d358dccaa6c78a5 ∧
      State.reset.secret1 = 0x8bb84b93962eacc9 ∧ State.reset.secret2 = 0x4b33a62ed433d4a3 :=
  ⟨rfl, rfl, rfl, rfl⟩

theorem witness_ReadsStayInsideTheInput :
    let s := { accepted with phase := .block, i := 49 };
    Inv s ∧ decode (.phase s.phase.code) = .ok .block ∧ 47 ∈ readSet .block s :=
  ⟨accepted_inv .block [] ⟨rfl, by decide, by decide, by decide⟩ (by decide), rfl, by decide⟩

theorem witness_SuccessorIgnoresTheData :
    let s := { running .tail1 33 1 with i := 33 };
    let t := { running .tail1 33 2 with i := 33, mem := [] };
    Instr.isCommand .tail1 = false ∧ s.cfg = t.cfg ∧ s.kind = t.kind ∧ s.lw = t.lw ∧ s.i = t.i ∧
      Readable s (readSet .tail1 s) ∧ Readable t (readSet .tail1 t) ∧
      (∃ s', exec .tail1 s = .next s') ∧ ∃ t', exec .tail1 t = .next t' := by
  have hs : Readable { running .tail1 33 1 with i := 33 }
      (readSet .tail1 { running .tail1 33 1 with i := 33 }) := (refusedIn_none_iff _ _).1 (by decide)
  have ht : Readable { running .tail1 33 2 with i := 33, mem := [] }
      (readSet .tail1 { running .tail1 33 2 with i := 33, mem := [] }) :=
    (refusedIn_none_iff _ _).1 (by decide)
  exact ⟨rfl, rfl, rfl, rfl, rfl, hs, ht, ⟨_, readStep_readable _ _ _ hs⟩, _, readStep_readable _ _ _ ht⟩

theorem hostTurn_inv (e : HostEvent) : Inv (hostTurn false e) where
  cfg_wf := rfl
  busy_iff := ⟨nofun, fun h => absurd rfl h⟩
  done_idle := nofun
  src_width := (by decide : (0 : Word).toNat < 2 ^ 64)
  base_width := (by decide : (0 : Word).toNat < 2 ^ 64)
  errinfo_clear := fun _ => rfl
  len_kind := fun h => absurd rfl h
  phase_facts := trivial
  mem_wf := rfl
  mem_range := nofun

theorem witness_PhasesFollowTheSuccessorTable :
    (let s := { accepted with phase := .seed, i := 49 };
      Inv s ∧ (∃ t, step s = .next t) ∧ (s.schedule = [] ∨ s.schedule.head? = some .core) ∧
        s.phase ≠ .idle) ∧
    (let s := hostTurn false (.write 0x00 0x31);
      Inv s ∧ s.schedule.head? = some (.host (.write 0x00 0x31)) ∧ ∃ t, step s = .next t) :=
  ⟨⟨accepted_inv .seed [] trivial (by decide), ⟨_, rfl⟩, .inl rfl, by decide⟩, hostTurn_inv _, rfl, _, rfl⟩

theorem witness_StepKeepsTheInvariant :
    let s := { accepted with phase := .seed, i := 49 };
    Inv s ∧ ∃ t, step s = .next t :=
  ⟨accepted_inv .seed [] trivial (by decide), _, rfl⟩

/-- Turns a host may take during a command over the eight bytes at 0x1000: POLL, a read, dropped and ignored
writes, stores to the bytes on each side of the input, and core turns between them. -/
def meanwhile : List Turn :=
  [.host .poll, .host (.read 0x48), .core, .host (.write 0x18 7), .host (.write 0x00 0x31),
    .host (.write 0x48 1), .host (.storeBegin 0xfff), .core, .host (.store 0xfff 1),
    .host (.store 0x1008 1), .host .poll]

theorem meanwhile_lawful : ∀ x ∈ meanwhile, lawful Config.default x = true := by decide

theorem witness_AcceptedCommandsEnd :
    (let s := { accepted with phase := .seed, i := 49, schedule := meanwhile };
      Inv s ∧ s.phase = .seed ∧ ∀ x ∈ s.schedule, lawful s.cfg x = true) ∧
    (let s := { accepted with phase := .seed, i := 49, schedule := [] };
      Inv s ∧ s.phase = .seed ∧ ∀ x ∈ s.schedule, lawful s.cfg x = true) :=
  ⟨⟨accepted_inv .seed _ trivial (by decide), rfl, meanwhile_lawful⟩,
    accepted_inv .seed _ trivial (by decide), rfl, nofun⟩

/-- An idle block about to get a command word, with SRC, LEN and VALUE set and the eight bytes 0 to 7 at
0x1000; then the turns `rest`. -/
def ready (op : BitVec 4) (n : Nat) (rest : List Turn) : State :=
  { State.reset with
    src := 0x1000, len := BitVec.ofNat 64 n, value := 0x0706050403020100, mem := seqMem 8
    schedule := .host (.write 0x00 (commandWord op true true)) :: rest }

theorem ready_admitted (op : BitVec 4) (rest : List Turn) (j : Nat) (h : j < 8) :
    admitted (ready op 8 rest).cfg ((ready op 8 rest).src.toNat + j) = true :=
  (by decide : ∀ j < 8, admitted Config.default (0x1000 + j) = true) j h

theorem ready_quiet (op : BitVec 4) (m n : Nat) (hn : n ≤ 8) (rest : List Turn)
    (hr : rest = [] ∨ rest = meanwhile) : Quiet (ready op m rest) 0x1000 n := by
  intro j hj
  refine ⟨rfl, rfl, ?_⟩
  obtain rfl | rfl := hr
  · rfl
  · exact (by decide : ∀ j < 8, meanwhile.any (storesTo (0x1000 + j)) = false) j (by omega)

theorem witness_DigestCommandComputesRapidhash :
    let s := ready 1 8 meanwhile;
    s.busy = false ∧ s.schedule = .host (.write 0x00 (commandWord 1 true true)) :: meanwhile ∧
      (∀ x ∈ meanwhile, lawful s.cfg x = true) ∧
      (∀ j, j < s.len.toNat → admitted s.cfg (s.src.toNat + j) = true) ∧
      Quiet s s.src.toNat s.len.toNat :=
  ⟨rfl, rfl, meanwhile_lawful, ready_admitted 1 _, ready_quiet 1 8 8 (by decide) _ (.inr rfl)⟩

theorem witness_FixedCommandsComputeRapidhash :
    ((ready 2 0 meanwhile).busy = false ∧ (∀ x ∈ meanwhile, lawful (ready 2 0 meanwhile).cfg x = true) ∧
      (ready 2 0 meanwhile).schedule = .host (.write 0x00 (commandWord 2 true true)) :: meanwhile) ∧
    ((ready 3 0 meanwhile).busy = false ∧ (∀ x ∈ meanwhile, lawful (ready 3 0 meanwhile).cfg x = true) ∧
      (ready 3 0 meanwhile).schedule = .host (.write 0x00 (commandWord 3 true true)) :: meanwhile) :=
  ⟨⟨rfl, meanwhile_lawful, rfl⟩, ⟨rfl, meanwhile_lawful, rfl⟩⟩

theorem witness_FixedWidthEquivalence :
    (let s := ready 2 8 [];
      let b := { s with schedule := .host (.write 0x00 (commandWord 1 true true)) :: meanwhile };
      (∀ x ∈ meanwhile, lawful s.cfg x = true) ∧ s.busy = false ∧ s.len = BitVec.ofNat 64 8 ∧
        (∀ k, k < 8 → admitted s.cfg (s.src.toNat + k) = true) ∧ Quiet b s.src.toNat 8 ∧
        ∀ k, k < 8 → some (s.mem.read (s.src.toNat + k)) = (bytesLe s.value 8)[k]?) ∧
    (let s := ready 3 4 [];
      let b := { s with schedule := .host (.write 0x00 (commandWord 1 true true)) :: meanwhile };
      (∀ x ∈ meanwhile, lawful s.cfg x = true) ∧ s.busy = false ∧ s.len = BitVec.ofNat 64 4 ∧
        (∀ k, k < 4 → admitted s.cfg (s.src.toNat + k) = true) ∧ Quiet b s.src.toNat 4 ∧
        ∀ k, k < 4 → some (s.mem.read (s.src.toNat + k)) = (bytesLe s.value 4)[k]?) :=
  ⟨⟨meanwhile_lawful, rfl, rfl, ready_admitted 2 [], ready_quiet 1 8 8 (by decide) _ (.inr rfl), by decide⟩,
    ⟨meanwhile_lawful, rfl, rfl, fun k h => ready_admitted 3 [] k (by omega),
      ready_quiet 1 4 4 (by decide) _ (.inr rfl), by decide⟩⟩

theorem witness_EqualInputsGiveEqualDigests :
    (let s := ready 1 8 meanwhile;
      let t := { ready 1 8 [] with value := 3, digest := 9 };
      s.busy = false ∧ t.busy = false ∧
        s.schedule = .host (.write 0x00 (commandWord 1 true true)) :: meanwhile ∧
        t.schedule = .host (.write 0x00 (commandWord 1 true true)) :: [] ∧
        (∀ x ∈ meanwhile, lawful s.cfg x = true) ∧ (∀ x ∈ ([] : List Turn), lawful t.cfg x = true) ∧
        s.cfg = t.cfg ∧ s.seed = t.seed ∧ s.secret0 = t.secret0 ∧ s.secret1 = t.secret1 ∧
        s.secret2 = t.secret2 ∧ s.len = t.len ∧
        (∀ j, j < s.len.toNat → admitted s.cfg (s.src.toNat + j) = true ∧
          admitted t.cfg (t.src.toNat + j) = true ∧
          s.mem.read (s.src.toNat + j) = t.mem.read (t.src.toNat + j)) ∧
        Quiet s s.src.toNat s.len.toNat ∧ Quiet t t.src.toNat t.len.toNat) ∧
    (∀ op : BitVec 4, op = 2 ∨ op = 3 →
      let s := ready op 8 meanwhile;
      let t := { ready op 8 [] with len := 1, digest := 9 };
      s.busy = false ∧ t.busy = false ∧ s.cfg = t.cfg ∧ s.seed = t.seed ∧ s.secret0 = t.secret0 ∧
        s.secret1 = t.secret1 ∧ s.secret2 = t.secret2 ∧ s.value = t.value ∧
        s.value.setWidth 32 = t.value.setWidth 32 ∧
        s.schedule = .host (.write 0x00 (commandWord op true true)) :: meanwhile ∧
        t.schedule = .host (.write 0x00 (commandWord op true true)) :: []) :=
  ⟨⟨rfl, rfl, rfl, rfl, meanwhile_lawful, nofun, rfl, rfl, rfl, rfl, rfl, rfl,
      fun j h => ⟨ready_admitted 1 _ j h, ready_admitted 1 [] j h, rfl⟩,
      ready_quiet 1 8 8 (by decide) _ (.inr rfl), ready_quiet 1 8 8 (by decide) [] (.inl rfl)⟩,
    fun _ _ => ⟨rfl, rfl, rfl, rfl, rfl, rfl, rfl, rfl, rfl, rfl, rfl⟩⟩

end Sys2Proof.Tests
end

section
/-! ## What one step can do -/

namespace Sys2Proof.Machine

/-! ### The micro-operations -/

/-- The registers a micro-operation other than OUT may write when no read is refused. -/
structure Scratch where
  seedw : Word
  see1 : Word
  see2 : Word
  a : Word
  b : Word
  i : Word
  phase : Phase
  draws : Nat

/-- The values a state holds in those registers. -/
def State.scratch (s : State) : Scratch := ⟨s.seedw, s.see1, s.see2, s.a, s.b, s.i, s.phase, s.draws⟩

/-- The state with those registers written and all else as it was. -/
@[simp] def State.withScratch (s : State) (x : Scratch) : State :=
  { s with
    seedw := x.seedw, see1 := x.see1, see2 := x.see2, a := x.a, b := x.b, i := x.i
    phase := x.phase, draws := x.draws }

/-- The state in which OUT leaves the digest `d` (44_finalizer.md R162). -/
@[simp] def State.withDigest (s : State) (d : Word) : State :=
  { completeFlags s with digest := d, phase := .idle }

/-- All that a micro-operation can do: abort at the lowest refused address, complete the command, or write
the working registers and move on. -/
inductive MicroEffect (i : Instr) (s : State) : State → Prop
  | abort (p : Nat) (hp : LowestRefused s (readSet i s) p) : MicroEffect i s (raise (.busError p) s)
  | complete (hi : i = .out) (d : Word) : MicroEffect i s (s.withDigest d)
  | work (hi : i ≠ .out) (hr : Readable s (readSet i s)) (x : Scratch) :
      MicroEffect i s (s.withScratch x)

/-- A reading step has the effect of a micro-operation when its result differs in working registers only. -/
theorem readStep_microEffect {i : Instr} {r s t : State} (hi : i ≠ .out)
    (h : readStep (readSet i s) r s = .next t)
    (hr : { r with draws := s.draws + 1 } = s.withScratch { r.scratch with draws := s.draws + 1 }) :
    MicroEffect i s t := by
  rcases readStep_next _ _ _ _ h with ⟨hread, rfl⟩ | ⟨p, hp, rfl⟩
  · rw [hr]
    exact .work hi hread _
  · exact .abort p hp

/-- A micro-operation that reads nothing has all its bytes admitted. -/
theorem readable_of_reads_nothing {s : State} {offs : List Nat} (h : offs = []) : Readable s offs := by
  subst h
  intro j hj
  cases hj

theorem exec_microEffect {i : Instr} {s t : State} (hm : i.isCommand = false)
    (h : exec i s = .next t) : MicroEffect i s t := by
  have quiet (hi : i ≠ .out) (hr : readSet i s = []) (ht : t = s.withScratch t.scratch) :
      MicroEffect i s t := by
    rw [ht]
    exact .work hi (readable_of_reads_nothing hr) _
  cases i with
  | digest | fixed64 | fixed32 | clrstat => cases hm
  | tiny | short | block | tail1 | tail2 | last => exact readStep_microEffect nofun h rfl
  | out =>
    cases h
    exact .complete rfl _
  | dispatch =>
    simp only [exec, execDispatch] at h
    split_ifs at h <;> cases h <;> exact quiet nofun rfl rfl
  | seed | empty | fold | final | fix8 | fix4 =>
    cases h
    exact quiet nofun rfl rfl

/-- Where no byte is refused, a core step takes phase and count to the successor's. -/
theorem exec_successor {i : Instr} {s t : State} (hi : microOf s.phase = some i)
    (hr : Readable s (readSet i s)) (h : exec i s = .next t) :
    t.phase = successor s ∧ (t.phase ≠ .idle → t.i = countAfter s) := by
  simpa [controlStep_readable s i hi hr] using exec_control s t i hi h

/-- The instruction a phase names is a micro-operation. -/
theorem microOf_isCommand {p : Phase} {i : Instr} (h : microOf p = some i) : i.isCommand = false := by
  cases p <;> cases h <;> rfl

/-- OUT is named by the phase OUT only, and IDLE names no instruction. -/
theorem microOf_out_iff {p : Phase} {i : Instr} (h : microOf p = some i) :
    p ≠ .idle ∧ (i = .out ↔ p = .out) := by
  cases p <;> cases h <;> decide

/-! ### The commands -/

/-- All that a command word can do: be dropped while busy, clear the status, start a digest command. -/
inductive CommandEffect (i : Instr) (s : State) : State → Prop
  | dropped (hb : s.busy = true) : CommandEffect i s (raise (.writeWhileBusy 0) s)
  | cleared (hb : s.busy = false) (hi : i = .clrstat) : CommandEffect i s (clearStatus s)
  | accepted (hb : s.busy = false) (k : Kind) (ds dk : Bool) : CommandEffect i s (accept k ds dk s)

theorem exec_commandEffect {i : Instr} {s t : State} (hc : i.isCommand = true)
    (h : exec i s = .next t) : CommandEffect i s t := by
  have digestCommand (k : Kind) (ds dk : Bool) (h : command (accept k ds dk) s = .next t) :
      CommandEffect i s t := by
    rcases command_next _ _ _ h with ⟨hb, rfl⟩ | ⟨hb, rfl⟩
    · exact .dropped hb
    · exact .accepted hb k ds dk
  cases i with
  | digest ds dk => exact digestCommand .digest ds dk h
  | fixed64 ds dk => exact digestCommand .fixed64 ds dk h
  | fixed32 ds dk => exact digestCommand .fixed32 ds dk h
  | clrstat =>
    rcases command_next _ _ _ h with ⟨hb, rfl⟩ | ⟨hb, rfl⟩
    · exact .dropped hb
    · exact .cleared hb rfl
  | _ => cases hc

/-- A decoded command word is a command. -/
theorem decodeCommand_isCommand {w : Word} {i : Instr} (h : decodeCommand w = .ok i) :
    i.isCommand = true := by
  unfold decodeCommand at h
  split at h
  · split at h
    case h_4 =>
      split at h <;> cases h
      rfl
    all_goals cases h
    all_goals rfl
  · cases h

/-! ### The whole step -/

/-- The host's next turn stands at the head of the schedule. -/
theorem schedule_head_of_nextTurn {s : State} {e : HostEvent} (h : nextTurn s = .host e) :
    s.schedule.head? = some (.host e) := by
  unfold nextTurn at h
  split at h
  · cases h
  · next t ts hs => rw [hs, ← h]; rfl

/-- All that one step can make of a state: one constructor for each effect a turn can have on the state with
that turn taken off the schedule. -/
inductive StepEffect (s : State) : State → Prop
  | pass : StepEffect s (advance s)
  | dropped (off : Offset) (hb : s.busy = true) :
      StepEffect s (raise (.writeWhileBusy off) (advance s))
  | illegal (w : Word) (hb : s.busy = false) : StepEffect s (raise (.illegalCommand w) (advance s))
  | accepted (k : Kind) (ds dk : Bool) (hb : s.busy = false) :
      StepEffect s (accept k ds dk (advance s))
  | cleared (hf : fetch s = some .clrstat) (hb : s.busy = false) :
      StepEffect s (clearStatus (advance s))
  | written (r : Reg) (v : Word) (hb : s.busy = false) : StepEffect s (writeReg r v (advance s))
  | read (off : Offset) : StepEffect s (readEvent off (advance s))
  | pollAgain : StepEffect s
      { readEvent 8 (advance s) with schedule := .core :: .host .poll :: s.schedule.tail }
  | storeBegun (p : Nat) (hs : s.schedule.head? = some (.host (.storeBegin p)))
      (hp : p < 2 ^ s.cfg.addrWidth) : StepEffect s (storeBegins p (advance s))
  | stored (p : Nat) (v : Byte) (hs : s.schedule.head? = some (.host (.store p v)))
      (hp : p < 2 ^ s.cfg.addrWidth) : StepEffect s (storeCompletes p v (advance s))
  | reset (hr : s.schedule.head? = some (.host .reset)) : StepEffect s (blockReset (advance s))
  | micro (i : Instr) (t : State) (hf : fetch s = some i) (hi : microOf s.phase = some i)
      (h : exec i (advance s) = .next t) (ht : MicroEffect i (advance s) t) : StepEffect s t

/-- What a host event does that issues no instruction. -/
theorem hostEvent_stepEffect {s t : State} {e : HostEvent} (he : nextTurn s = .host e)
    (h : hostEvent e (advance s) = .next t) : StepEffect s t := by
  cases e with
  | write off v =>
    obtain ⟨-, ht⟩ := atOffset_next _ _ _ _ h
    split at ht
    · rcases illegalWord_cases v (advance s) with ⟨hb, hw⟩ | ⟨hb, hw⟩ <;> rw [hw] at ht <;> subst ht
      · exact .dropped 0 hb
      · exact .illegal v hb
    · rcases writeWindow_cases off v (advance s) with hw | ⟨hb, hw⟩ | ⟨r, -, hb, hw⟩ <;>
        rw [hw] at ht <;> subst ht
      · exact .pass
      · exact .dropped off hb
      · exact .written r v hb
  | read off =>
    obtain ⟨-, rfl⟩ := atOffset_next _ _ _ _ h
    exact .read off
  | poll =>
    cases h
    rcases pollEvent_cases (advance s) with hp | hp <;> rw [hp]
    · exact .read 8
    · exact .pollAgain
  | storeBegin p =>
    obtain ⟨hp, rfl⟩ := inAddressSpace_next _ _ _ _ h
    exact .storeBegun p (schedule_head_of_nextTurn he) hp
  | store p v =>
    obtain ⟨hp, rfl⟩ := inAddressSpace_next _ _ _ _ h
    exact .stored p v (schedule_head_of_nextTurn he) hp
  | reset =>
    cases h
    exact .reset (schedule_head_of_nextTurn he)
  | irregular | duringReset => cases h

theorem step_stepEffect {s t : State} (h : step s = .next t) : StepEffect s t := by
  rcases step_next_cases s t h with ⟨i, hf, hx⟩ | ⟨-, -, rfl⟩ | ⟨e, -, he, hx⟩
  · cases hn : nextTurn s with
    | core =>
      have hi : microOf s.phase = some i := by rw [← fetch_core s hn, hf]
      exact .micro i t hf hi hx (exec_microEffect (microOf_isCommand hi) hx)
    | host e =>
      obtain ⟨-, w, -, -, hd⟩ := fetch_host s e i hn hf
      cases exec_commandEffect (decodeCommand_isCommand hd) hx with
      | dropped hb => exact .dropped 0 hb
      | cleared hb hi => exact .cleared (hi ▸ hf) hb
      | accepted hb k ds dk => exact .accepted k ds dk hb
  · exact .pass
  · exact hostEvent_stepEffect he hx

end Sys2Proof.Machine
end

section
/-! ## The invariant of the machine -/

namespace Sys2Proof.Machine

/-! ### Each operation keeps the invariant -/

theorem Inv.advance {s : State} (hs : Inv s) : Inv (advance s) := { hs with }

theorem Inv.not_idle_of_microOf {s : State} {i : Instr} (hs : Inv s) (hi : microOf s.phase = some i) :
    s.busy = true ∧ s.done = false := by
  have hp := (microOf_out_iff hi).1
  refine ⟨hs.busy_iff.2 hp, ?_⟩
  cases hd : s.done
  · rfl
  · exact absurd (hs.done_idle hd) hp

theorem noError_raise (c : ErrorCause) (s : State) : noError (raise c s) = false := by
  cases c <;> simp [noError]

/-- An error the host causes leaves the command in progress as it is. -/
theorem Inv.raise_writeWhileBusy {s : State} (hs : Inv s) (off : Offset) :
    Inv (raise (.writeWhileBusy off) s) :=
  { hs with errinfo_clear := fun h => absurd h (by simp [noError_raise]) }

theorem Inv.raise_illegalCommand {s : State} (hs : Inv s) (w : Word) :
    Inv (raise (.illegalCommand w) s) :=
  { hs with errinfo_clear := fun h => absurd h (by simp [noError_raise]) }

theorem Inv.raise_busError {s : State} (hs : Inv s) (p : Nat) : Inv (raise (.busError p) s) :=
  { hs with
    busy_iff := by simp
    done_idle := by simp
    errinfo_clear := fun h => absurd h (by simp [noError_raise])
    len_kind := by simp
    phase_facts := trivial }

theorem Inv.clearStatus {s : State} (hs : Inv s) : Inv (clearStatus s) :=
  { hs with
    done_idle := by simp
    errinfo_clear := fun _ => rfl }

theorem Inv.accept {s : State} (hs : Inv s) (k : Kind) (ds dk : Bool) : Inv (accept k ds dk s) :=
  { hs with
    busy_iff := by simp
    done_idle := by simp
    base_width := hs.src_width
    len_kind := by rintro -; constructor <;> rintro rfl <;> rfl
    phase_facts := trivial }

/-- SRC takes no bit at or above `ADDR_WIDTH` (10_state.md R30). -/
theorem maskAddr_lt (c : Config) (v : Word) : (maskAddr c v).toNat < 2 ^ c.addrWidth := by
  rw [maskAddr, BitVec.toNat_ofNat]
  exact (Nat.mod_le _ _).trans_lt (Nat.mod_lt _ (by positivity))

theorem Inv.writeReg {s : State} (hs : Inv s) (r : Reg) (v : Word) : Inv (writeReg r v s) := by
  cases r with
  | src => exact { hs with src_width := maskAddr_lt s.cfg v }
  | _ => exact { hs with }

theorem Inv.readEvent {s : State} (hs : Inv s) (off : Offset) : Inv (readEvent off s) := { hs with }

theorem Inv.withSchedule {s : State} (hs : Inv s) (ts : List Turn) : Inv { s with schedule := ts } :=
  { hs with }

theorem Inv.storeBegins {s : State} (hs : Inv s) (p : Nat) : Inv (storeBegins p s) := { hs with }

theorem Inv.storeCompletes {s : State} (hs : Inv s) {p : Nat} (v : Byte)
    (hp : p < 2 ^ s.cfg.addrWidth) : Inv (storeCompletes p v s) :=
  { hs with
    mem_wf := mem_write_wf s.mem p v hs.mem_wf
    mem_range := fun x hx => by
      rcases mem_write_mem s.mem p v x hx with rfl | hx
      · exact hp
      · exact hs.mem_range x hx }

/-- Reset meets the invariant in every legal build, whatever canonical memory the host keeps. -/
theorem Inv.blockReset {s : State} (hs : Inv s) : Inv (blockReset s) where
  cfg_wf := hs.cfg_wf
  busy_iff := ⟨nofun, fun h => absurd rfl h⟩
  done_idle := nofun
  src_width := Nat.two_pow_pos _
  base_width := Nat.two_pow_pos _
  errinfo_clear := fun _ => rfl
  len_kind := fun h => absurd rfl h
  phase_facts := trivial
  mem_wf := hs.mem_wf
  mem_range := hs.mem_range

theorem Inv.withDigest {s : State} (hs : Inv s) (d : Word) : Inv (s.withDigest d) :=
  { hs with
    busy_iff := by simp
    done_idle := by simp
    len_kind := by simp
    phase_facts := trivial }

/-! ### The sequencer keeps the phases' entry conditions -/

/-- The phase after OUT, and after no other micro-operation, is IDLE. -/
theorem successor_eq_idle_iff {s : State} (hp : s.phase ≠ .idle) :
    successor s = .idle ↔ s.phase = .out := by
  unfold successor
  split <;> simp_all only [ne_eq, not_true_eq_false, reduceCtorEq, iff_false, iff_self]
  · cases s.kind <;> simp [afterSeed]
  · unfold afterDispatch; split_ifs <;> simp
  · unfold afterBlock; split_ifs <;> simp
  · unfold afterFold; split_ifs <;> simp
  · unfold afterTail1; split_ifs <;> simp

/-- A block is left to do only where a whole block of input is left (43_block_loop.md R141). -/
theorem continues_le {c : Config} {i : Word} (h : continues c i = true) : 48 ≤ i.toNat := by
  unfold continues at h
  split at h <;> simp at h <;> omega

/-- When the block loop ends at most 48 bytes are left (43_block_loop.md R142). -/
theorem not_continues_le {c : Config} {i : Word} (h : continues c i = false) : i.toNat ≤ 48 := by
  unfold continues at h
  split at h <;> simp at h <;> omega

theorem continues_of_lt {c : Config} {i : Word} (h : 48 < i.toNat) : continues c i = true := by
  unfold continues
  split <;> simp <;> omega

theorem toNat_sub_block {i : Word} (h : 48 ≤ i.toNat) : (i - 48).toNat = i.toNat - 48 := by
  rw [BitVec.toNat_sub_of_le (by simpa [BitVec.le_def] using h)]
  rfl

theorem phaseFacts_congr {s t : State} (hc : t.cfg = s.cfg) (hk : t.kind = s.kind) (hl : t.lw = s.lw)
    (hi : t.i = s.i) (p : Phase) : phaseFacts t p ↔ phaseFacts s p := by
  cases p <;> simp only [phaseFacts, hc, hk, hl, hi]

theorem phaseFacts_afterSeed (s : State) : phaseFacts s (afterSeed s.kind) := by
  cases hk : s.kind <;> exact hk

/-- The successor's entry conditions follow from the phase's own. -/
theorem phaseFacts_successor {s : State} (h : phaseFacts s s.phase) :
    phaseFacts { s with i := countAfter s } (successor s) := by
  cases hp : s.phase <;> rw [hp] at h <;> simp only [successor, countAfter, hp]
  case seed => exact phaseFacts_afterSeed _
  case dispatch =>
    have hk : s.kind = .digest := h
    by_cases h48 : s.lw.toNat ≤ 48
    · unfold afterDispatch
      split_ifs <;> simp only [phaseFacts, hk, true_and] <;> omega
    · have h16 : ¬ s.lw.toNat ≤ 16 := by omega
      have h3 : ¬ s.lw.toNat ≤ 3 := by omega
      have h0 : s.lw.toNat ≠ 0 := by omega
      simp only [afterDispatch, if_neg h0, if_neg h3, if_neg h16, if_neg h48]
      exact ⟨hk, Nat.lt_of_not_le h48, le_rfl, continues_of_lt (Nat.lt_of_not_le h48)⟩
  case block =>
    obtain ⟨hk, hl, hi, hc⟩ := h
    have hsub := toNat_sub_block (continues_le hc)
    unfold afterBlock
    split_ifs with hn
    · exact ⟨hk, hl, by simp only; omega, hn⟩
    · exact ⟨hk, hl, by simp only; omega, by simpa using hn⟩
  case fold =>
    obtain ⟨hk, hl, hi, hc⟩ := h
    have := not_continues_le hc
    unfold afterFold
    split_ifs with h16
    · exact ⟨hk, h16, this, hi⟩
    · exact ⟨hk, by simp only; omega⟩
  case tail1 =>
    obtain ⟨hk, h16, h48, hi⟩ := h
    unfold afterTail1
    split_ifs with h32
    · exact ⟨hk, h32, h48, hi⟩
    · exact ⟨hk, by simp only; omega⟩
  case tail2 =>
    obtain ⟨hk, h32, h48, hi⟩ := h
    exact ⟨hk, by simp only; omega⟩
  all_goals trivial

/-- A core step that is not refused keeps the phases' entry conditions. -/
theorem phaseFacts_after {s t : State} (h : phaseFacts s s.phase) (hc : t.cfg = s.cfg)
    (hk : t.kind = s.kind) (hl : t.lw = s.lw) (hp : t.phase = successor s)
    (hi : t.phase ≠ .idle → t.i = countAfter s) : phaseFacts t t.phase := by
  by_cases hidle : t.phase = .idle
  · rw [hidle]; trivial
  · rw [hp]
    exact (phaseFacts_congr (s := { s with i := countAfter s }) hc hk hl (hi hidle) _).2
      (phaseFacts_successor h)

/-- A micro-operation that moves on to its successor keeps the invariant. -/
theorem Inv.withScratch {s : State} (hs : Inv s) {i : Instr} (x : Scratch)
    (hi : microOf s.phase = some i) (hout : i ≠ .out) (hx : x.phase = successor s)
    (hc : x.phase ≠ .idle → x.i = countAfter s) : Inv (s.withScratch x) := by
  obtain ⟨hidle, hiff⟩ := microOf_out_iff hi
  obtain ⟨hb, hd⟩ := hs.not_idle_of_microOf hi
  have hp : x.phase ≠ .idle := by
    rw [hx, Ne, successor_eq_idle_iff hidle, ← hiff]
    exact hout
  exact { hs with
    busy_iff := by simp [hb, hp]
    done_idle := by simp [hd]
    len_kind := fun _ => hs.len_kind hidle
    phase_facts := phaseFacts_after hs.phase_facts rfl rfl rfl hx hc }

theorem Inv.microEffect {s t : State} {i : Instr} (hs : Inv s) (hi : microOf s.phase = some i)
    (h : exec i s = .next t) (ht : MicroEffect i s t) : Inv t := by
  cases ht with
  | abort p hp => exact hs.raise_busError p
  | complete hout d => exact hs.withDigest d
  | work hout hr x =>
    obtain ⟨hp, hc⟩ := exec_successor hi hr h
    exact hs.withScratch x hi hout hp hc

/-- Settles O55: each effect a step can have keeps the invariant. -/
theorem stepKeepsTheInvariant : Obligations.StepKeepsTheInvariant := by
  intro s t hs h
  cases step_stepEffect h with
  | pass => exact hs.advance
  | dropped off => exact hs.advance.raise_writeWhileBusy off
  | illegal w => exact hs.advance.raise_illegalCommand w
  | accepted k ds dk => exact hs.advance.accept k ds dk
  | cleared => exact hs.advance.clearStatus
  | written r v => exact hs.advance.writeReg r v
  | read off => exact hs.advance.readEvent off
  | pollAgain => exact (hs.advance.readEvent 8).withSchedule _
  | storeBegun p => exact hs.advance.storeBegins p
  | stored p v _ hp => exact hs.advance.storeCompletes v hp
  | reset => exact hs.advance.blockReset
  | micro i t hf hi hx ht => exact hs.advance.microEffect hi hx ht

/-- Settles O54: the reset state is its own reset. -/
theorem resetMeetsTheInvariant : Obligations.ResetMeetsTheInvariant where
  cfg_wf := rfl
  busy_iff := ⟨nofun, fun h => absurd rfl h⟩
  done_idle := nofun
  src_width := Nat.two_pow_pos _
  base_width := Nat.two_pow_pos _
  errinfo_clear := fun _ => rfl
  len_kind := fun h => absurd rfl h
  phase_facts := trivial
  mem_wf := reset_mem_wf
  mem_range := nofun

/-! ### What the steps leave unchanged -/

/-- Settles O46: neither an abort, nor OUT, nor the working registers touch these fields. -/
theorem microOperationsKeepOperandsAndSecrets : Obligations.MicroOperationsKeepOperandsAndSecrets := by
  intro i s t hm h
  cases exec_microEffect hm h with
  | abort p => simp
  | complete _ d => simp
  | work _ _ x => simp

/-- Settles O47: of all effects of a step only OUT's and reset write DIGEST. -/
theorem digestIsWrittenOnlyByOut : Obligations.DigestIsWrittenOnlyByOut := by
  intro s t h
  cases step_stepEffect h with
  | reset hr => exact .inr (.inr hr)
  | micro i t hf hi hx ht =>
    cases ht with
    | abort p => exact .inl (by simp)
    | complete hout d => exact .inr (.inl (hout ▸ hf))
    | work _ _ x => exact .inl rfl
  | _ => exact .inl (by simp)

theorem raise_keeps_errors (c : ErrorCause) (s : State) :
    (s.illegal = true → (raise c s).illegal = true) ∧ (s.wbusy = true → (raise c s).wbusy = true) ∧
      (s.buserr = true → (raise c s).buserr = true) := by
  cases c <;> simp

/-- A digest command written while idle is accepted. -/
theorem exec_digestCommand {i : Instr} {s : State} (hb : s.busy = false) (hc : i.isCommand = true)
    (hi : i ≠ .clrstat) : ∃ k ds dk, exec i s = .next (accept k ds dk s) := by
  cases i with
  | digest ds dk => exact ⟨.digest, ds, dk, command_idle _ s hb⟩
  | fixed64 ds dk => exact ⟨.fixed64, ds, dk, command_idle _ s hb⟩
  | fixed32 ds dk => exact ⟨.fixed32, ds, dk, command_idle _ s hb⟩
  | clrstat => exact absurd rfl hi
  | _ => cases hc

/-- Settles O48: an error raised keeps the bits set before, and only CLRSTAT and reset clear them. -/
theorem errorBitsAreSticky : Obligations.ErrorBitsAreSticky := by
  refine ⟨fun s t h => ?_, fun s i hb hc hi => ?_⟩
  · cases step_stepEffect h with
    | dropped off => exact .inl (raise_keeps_errors _ (advance s))
    | illegal w => exact .inl (raise_keeps_errors _ (advance s))
    | cleared hf hb => exact .inr (.inl ⟨hf, hb⟩)
    | reset hr => exact .inr (.inr hr)
    | micro i t hf hi hx ht =>
      cases ht with
      | abort p => exact .inl (raise_keeps_errors _ (advance s))
      | complete _ d => exact .inl (by simp)
      | work _ _ x => exact .inl (by simp)
    | _ => exact .inl (by simp)
  · obtain ⟨k, ds, dk, h⟩ := exec_digestCommand hb hc hi
    exact ⟨_, h, rfl, rfl, rfl, rfl, rfl⟩

/-- An error raised is recorded only where no error bit was set, and sets one (60_exceptions.md R204). -/
theorem raise_records_first (c : ErrorCause) (s : State) :
    (raise c s).errinfo = s.errinfo ∨ (noError s = true ∧ noError (raise c s) = false) := by
  cases h : noError s
  · exact .inl (by simp [errinfoAfter, h])
  · exact .inr ⟨rfl, noError_raise c s⟩

/-- Settles O49: ERRINFO is written by a raised error, by CLRSTAT and by reset only. -/
theorem errinfoKeepsTheFirstRecord : Obligations.ErrinfoKeepsTheFirstRecord := by
  intro s t h
  have raised (c : ErrorCause) : (raise c (advance s)).errinfo = s.errinfo ∨
      (noError s = true ∧ noError (raise c (advance s)) = false) := raise_records_first c (advance s)
  cases step_stepEffect h with
  | dropped off => exact (raised _).imp_right .inl
  | illegal w => exact (raised _).imp_right .inl
  | cleared hf hb => exact .inr (.inr (.inl ⟨hf, hb⟩))
  | reset hr => exact .inr (.inr (.inr hr))
  | micro i t hf hi hx ht =>
    cases ht with
    | abort p => exact (raised _).imp_right .inl
    | complete _ d => exact .inl rfl
    | work _ _ x => exact .inl rfl
  | _ => exact .inl (by simp)

end Sys2Proof.Machine
end

section
/-! ## The register words and the turns -/

namespace Sys2Proof.Machine

/-! ### STATUS, CONFIG and SRC bit by bit -/

theorem flagAt_getLsbD (b : Bool) (n k : Nat) :
    (flagAt b n).getLsbD k = (decide (k < 64) && decide (k = n) && b) := by
  simp only [flagAt, BitVec.getLsbD_shiftLeft, BitVec.getLsbD_setWidth, BitVec.getLsbD_ofBool]
  grind

theorem statusWord_getLsbD (s : State) (k : Nat) (hk : k < 64) :
    (statusWord s).getLsbD k =
      (decide (k = 0) && s.busy || decide (k = 1) && s.done || decide (k = 2) && s.illegal ||
        decide (k = 3) && s.wbusy || decide (k = 4) && s.buserr ||
        decide (8 ≤ k) && s.phase.code.getLsbD (k - 8)) := by
  simp only [statusWord, BitVec.getLsbD_or, flagAt_getLsbD, BitVec.getLsbD_shiftLeft,
    BitVec.getLsbD_setWidth, hk, decide_true, Bool.true_and]
  grind

/-- A number of `r` bits placed at bit `m` of a word has its bits there and no others. -/
theorem placed_getLsbD {n r : Nat} (hn : n < 2 ^ r) (m k : Nat) :
    (BitVec.ofNat 64 n <<< m).getLsbD k =
      (decide (k < 64) && decide (m ≤ k) && decide (k < m + r) && n.testBit (k - m)) := by
  have high (hk : m + r ≤ k) : n.testBit (k - m) = false :=
    Nat.testBit_lt_two_pow (hn.trans_le (Nat.pow_le_pow_right (by decide) (by omega)))
  simp only [BitVec.getLsbD_shiftLeft, BitVec.getLsbD_ofNat]
  grind

theorem configWord_getLsbD {c : Config} (hc : c.wf = true) (k : Nat) (hk : k < 64) :
    (configWord c).getLsbD k =
      (decide (k = 0) && c.mixMode == .accumulate ||
        decide (8 ≤ k) && decide (k < 16) && c.addrWidth.testBit (k - 8) ||
        decide (k = 16) && c.blockLoopInclusive || decide (k = 17) && c.finalMulFollowsMode ||
        decide (18 ≤ k) && decide (k < 20) && c.finalBSecret.val.testBit (k - 18) ||
        decide (24 ≤ k) && decide (k < 30) && c.tinyShifts.s0.val.testBit (k - 24) ||
        decide (32 ≤ k) && decide (k < 38) && c.tinyShifts.s1.val.testBit (k - 32) ||
        decide (40 ≤ k) && decide (k < 46) && c.tinyShifts.s2.val.testBit (k - 40)) := by
  have hw : c.addrWidth < 2 ^ 8 := by simp [Config.wf] at hc; omega
  have hf : c.finalBSecret.val < 2 ^ 2 := by omega
  have shift (x : Fin 57) : x.val < 2 ^ 6 := by omega
  simp only [configWord, BitVec.getLsbD_or, flagAt_getLsbD, placed_getLsbD hw, placed_getLsbD hf,
    placed_getLsbD (shift _), hk, decide_true, Bool.true_and]

/-- A field of `w` bits reads as the number whose bits the word holds there. -/
theorem toNat_extractLsb'_eq {x : Word} {start w n : Nat} (hn : n < 2 ^ w)
    (h : ∀ k < w, x.getLsbD (start + k) = n.testBit k) : (x.extractLsb' start w).toNat = n := by
  have : x.extractLsb' start w = BitVec.ofNat w n := by
    ext k hk
    rw [BitVec.getElem_extractLsb', h k hk, ← BitVec.getLsbD_eq_getElem, BitVec.getLsbD_ofNat]
    simp [hk]
  rw [this, BitVec.toNat_ofNat, Nat.mod_eq_of_lt hn]

/-- A field whose bits are all clear in the word reads 0. -/
theorem extractLsb'_eq_zero {x : Word} {start w : Nat}
    (h : ∀ k < w, x.getLsbD (start + k) = false) : x.extractLsb' start w = 0 := by
  ext k hk
  simpa [BitVec.getElem_extractLsb'] using h k hk

/-- Settles O13: each field is read off the word bit by bit. -/
theorem statusReadsItsFields : Obligations.StatusReadsItsFields := by
  intro s
  refine ⟨?_, ?_, ?_, ?_, ?_, extractLsb'_eq_zero fun k hk => ?_, ?_,
    extractLsb'_eq_zero fun k hk => ?_⟩
  case refine_7 =>
    ext k hk
    rw [BitVec.getElem_extractLsb', statusWord_getLsbD _ _ (by omega)]
    grind
  all_goals
    rw [statusWord_getLsbD _ _ (by omega)]
    grind

/-- Settles O14: each field is read off the word bit by bit; the default build is evaluated. -/
theorem configReadsItsFields : Obligations.ConfigReadsItsFields := by
  refine ⟨fun c hc => ?_, by decide⟩
  have hw : c.addrWidth < 2 ^ 8 := by simp [Config.wf] at hc; omega
  refine ⟨?_, extractLsb'_eq_zero fun k hk => ?_, toNat_extractLsb'_eq hw fun k hk => ?_, ?_, ?_,
    toNat_extractLsb'_eq (by omega) fun k hk => ?_, extractLsb'_eq_zero fun k hk => ?_,
    toNat_extractLsb'_eq (by omega) fun k hk => ?_, extractLsb'_eq_zero fun k hk => ?_,
    toNat_extractLsb'_eq (by omega) fun k hk => ?_, extractLsb'_eq_zero fun k hk => ?_,
    toNat_extractLsb'_eq (by omega) fun k hk => ?_, extractLsb'_eq_zero fun k hk => ?_⟩
  all_goals
    rw [configWord_getLsbD hc _ (by omega)]
    grind

/-- Settles O15: SRC takes the written value modulo `2^ADDR_WIDTH`. -/
theorem srcKeepsItsAddressBits : Obligations.SrcKeepsItsAddressBits := by
  intro c v k
  simp only [maskAddr, BitVec.getLsbD_ofNat, Nat.testBit_mod_two_pow, BitVec.testBit_toNat]
  grind

/-! ### Reading the window -/

/-- No register stands at 0x60 or above (10_state.md R22, R35). -/
theorem regAt_reserved {off : Offset} (h : 0x60 ≤ off.toNat) : regAt off = none := by
  unfold regAt
  split
  case h_13 => rfl
  all_goals omega

/-- Settles O19: the register offsets are evaluated, the reserved ones hold no register. -/
theorem resetReadsTheResetValues : Obligations.ResetReadsTheResetValues := by
  refine ⟨rfl, rfl, rfl, rfl, rfl, rfl, rfl, rfl, rfl, rfl, rfl, rfl, fun off h _ => ?_, rfl⟩
  simp [readWindow, regAt_reserved h]

/-! ### What a turn issues -/

/-- Before a core turn the schedule is used up or begins with the core. -/
theorem nextTurn_core_iff (s : State) :
    nextTurn s = .core ↔ s.schedule = [] ∨ s.schedule.head? = some .core := by
  cases h : s.schedule <;> simp [nextTurn, h]

theorem nextTurn_host_iff (s : State) (e : HostEvent) :
    nextTurn s = .host e ↔ s.schedule.head? = some (.host e) := by
  cases h : s.schedule <;> simp [nextTurn, h]

/-- A step at whose turn an instruction is issued executes it on the state past that turn. -/
theorem step_of_fetch {s : State} {i : Instr} (h : fetch s = some i) : step s = exec i (advance s) := by
  simp [step, h]

/-- A core turn issues what the phase code decodes to. -/
theorem fetch_of_phase {s : State} {i : Instr} (hn : nextTurn s = .core)
    (hd : decode (.phase s.phase.code) = .ok i) : fetch s = some i := by
  simp [fetch, fetchCode, hn, hd]

/-- A write to CMD issues what its word decodes to. -/
theorem fetch_of_command {s : State} {off : Offset} {w : Word} {i : Instr}
    (hn : nextTurn s = .host (.write off w)) (hr : regAt off = some .cmd)
    (hd : decode (.command w) = .ok i) : fetch s = some i := by
  simp [fetch, fetchCode, hn, hr, hd]

/-- Settles O4: either turn issues the instruction its code decodes to. -/
theorem stepRunsTheIssuedInstruction : Obligations.StepRunsTheIssuedInstruction := by
  rintro s i (⟨hs, hd⟩ | ⟨w, hs, hd⟩)
  · exact step_of_fetch (fetch_of_phase ((nextTurn_core_iff s).2 hs) hd)
  · exact step_of_fetch (fetch_of_command ((nextTurn_host_iff s _).2 hs) rfl hd)

/-- Settles O5: the phase IDLE names no instruction. -/
theorem idleCoreTurnChangesNothing : Obligations.IdleCoreTurnChangesNothing := by
  intro s hs hp
  have hn := (nextTurn_core_iff s).2 hs
  have hf : fetch s = none := by rw [fetch_core s hn, hp]; rfl
  simp [step, hf, hn, otherTurn, advance]

/-- A phase code that decodes is the code of a phase other than IDLE. -/
theorem phaseOfCode_of_decodes : ∀ c : BitVec 4, (decodePhase c).isOk = true →
    (phaseOfCode c).any (fun p => decide (p.code = c ∧ p ≠ .idle)) = true := by decide

theorem decodePhase_phase {c : BitVec 4} {i : Instr} (h : decodePhase c = .ok i) :
    ∃ p, phaseOfCode c = some p ∧ p.code = c ∧ p ≠ .idle := by
  simpa [Option.any_eq_true] using phaseOfCode_of_decodes c (by rw [h]; rfl)

theorem decodeTableWord_eq_some {nbits w : Nat} {i : Instr} (h : decodeTableWord nbits w = some i) :
    ∃ c, tableCode nbits w = some c ∧ decode c = .ok i := by
  unfold decodeTableWord at h
  split at h
  · cases h
  · next c hc =>
    split at h
    · next j hj => exact ⟨c, hc, by cases h; exact hj⟩
    · cases h

/-- A command word written where the next turn issues it runs in the state as it was. -/
theorem step_issueCode_command (s : State) {w : Word} {i : Instr} (hd : decode (.command w) = .ok i) :
    step (issueCode (.command w) s) = exec i s := by
  have hf : fetch (issueCode (.command w) s) = some i := fetch_of_command (off := 0x00) rfl rfl hd
  exact step_of_fetch hf

/-- A phase code put where the next turn issues it runs with its phase in the phase register. -/
theorem step_issueCode_phase (s : State) {c : BitVec 4} {i : Instr} (hd : decode (.phase c) = .ok i) :
    ∃ p : Phase, p.code = c ∧
      step (issueCode (.phase c) s) = exec i { s with phase := p, busy := true } := by
  obtain ⟨p, hp, hc, hidle⟩ := decodePhase_phase hd
  have hs : issueCode (.phase c) s =
      { s with phase := p, busy := true, schedule := .core :: s.schedule } := by
    simp [issueCode, hp, hidle]
  refine ⟨p, hc, ?_⟩
  rw [hs, step_of_fetch (fetch_of_phase rfl (hc ▸ hd))]
  rfl

/-- Settles O6: the code is placed in the turn that comes next. -/
theorem placedInstructionRunsNext : Obligations.PlacedInstructionRunsNext := by
  intro s nbits w i h
  obtain ⟨c, hc, hd⟩ := decodeTableWord_eq_some h
  simp only [State.withFetchWord, hc]
  unfold tableCode at hc
  constructor
  · intro hn
    rw [if_neg (by omega)] at hc
    split_ifs at hc
    cases hc
    exact step_issueCode_command s hd
  · intro hn
    rw [if_pos hn] at hc
    split_ifs at hc with hw
    cases hc
    obtain ⟨p, hp, hstep⟩ := step_issueCode_phase s hd
    exact ⟨p, by rw [hp, BitVec.toNat_ofNat, Nat.mod_eq_of_lt hw], hstep⟩

end Sys2Proof.Machine
end

section
/-! ## What a digest command in progress is to leave in DIGEST -/

namespace Sys2Proof.Machine

/-! ### The block loop -/

/-- The bound on the number of passes does not matter while it is at least the count. -/
theorem hashLoop_fuel (c : Config) (buf : Nat → Byte) (L : Nat) (sec : Fin 3 → Word) (m n : Nat) (x : Accs)
    (i : Nat) (hi : 0 < i) (hm : i ≤ m) (hn : i ≤ n) :
    hashLoop c buf L sec m x i = hashLoop c buf L sec n x i := by
  induction m generalizing n x i with
  | zero => omega
  | succ m ih =>
    obtain ⟨n, rfl⟩ : ∃ k, n = k + 1 := ⟨n - 1, by omega⟩
    simp only [hashLoop]
    split
    · next hc =>
      have hle := continues_le hc
      rw [BitVec.toNat_ofNat] at hle
      have hmod := Nat.mod_le (i - 48) (2 ^ 64)
      exact ih n _ _ (by omega) (by omega) (by omega)
    · rfl

/-- One pass of the block loop. -/
theorem hashLoop_pass (c : Config) (buf : Nat → Byte) (L : Nat) (sec : Fin 3 → Word) (x : Accs) {i : Word}
    (hi : 48 ≤ i.toNat) :
    hashLoop c buf L sec i.toNat x i.toNat =
      if continues c (i - 48) then
        hashLoop c buf L sec (i - 48).toNat (hashBlock c buf L sec (L - i.toNat) x) (i - 48).toNat
      else (hashBlock c buf L sec (L - i.toNat) x, (i - 48).toNat) := by
  have hsub := toNat_sub_block hi
  have hof : BitVec.ofNat 64 (i.toNat - 48) = i - 48 := by rw [← hsub, BitVec.ofNat_toNat, BitVec.setWidth_eq]
  obtain ⟨n, hn⟩ : ∃ n, i.toNat = n + 1 := ⟨i.toNat - 1, by omega⟩
  calc hashLoop c buf L sec i.toNat x i.toNat
      = hashLoop c buf L sec (n + 1) x i.toNat := by rw [← hn]
    _ = _ := by
      simp only [hashLoop, hof, hsub]
      split
      · next hc =>
        have hle := continues_le hc
        exact hashLoop_fuel c buf L sec _ _ _ _ (by omega) (by omega) (by omega)
      · rfl

/-! ### From each phase on -/

/-- What LAST, FINAL and OUT make of the working seed after the tail (46_commands.md R189). -/
def hashLast (c : Config) (buf : Nat → Byte) (L : Word) (sec : Fin 3 → Word) (seed : Word) : Word :=
  hashFinish c L sec (bufRead64 buf L.toNat (L.toNat - 16)) (bufRead64 buf L.toNat (L.toNat - 8)) seed

/-- The seed that SEED derives (42_seed_dispatch.md R120). -/
def derivedSeed (c : Config) (L : Word) (sec : Fin 3 → Word) (seed : Word) : Word :=
  seed ^^^ mix c.mixMode (seed ^^^ sec 0) (sec 1) ^^^ L

/-- The digest of a digest command, from the derived seed on (46_commands.md R189). -/
def hashDerived (c : Config) (buf : Nat → Byte) (L : Word) (sec : Fin 3 → Word) (seed : Word) : Word :=
  let r := hashOperands c buf L.toNat sec seed
  hashFinish c L sec r.1 r.2.1 r.2.2

/-- The digest of a FIXED64 command, from the derived seed on (45_fixed_width.md R170). -/
def hashFix8 (c : Config) (L : Word) (sec : Fin 3 → Word) (v seed : Word) : Word :=
  hashFinish c L sec (swapHalves v) v seed

/-- The digest of a FIXED32 command, from the derived seed on (45_fixed_width.md R171). -/
def hashFix4 (c : Config) (L : Word) (sec : Fin 3 → Word) (v seed : Word) : Word :=
  hashFinish c L sec (doubleLow v) (doubleLow v) seed

/-- The digest that the command in progress leaves when its input is `buf`, read off the working registers
that are live in its phase; at IDLE the digest it has left. -/
def digestAhead (buf : Nat → Byte) (s : State) : Word :=
  let c := s.cfg
  let L := s.lw.toNat
  let sec := secretW s
  match s.phase with
  | .idle => s.digest
  | .seed =>
    match s.kind with
    | .digest => hashDerived c buf s.lw sec (derivedSeed c s.lw sec s.seedw)
    | .fixed64 => hashFix8 c s.lw sec s.vw (derivedSeed c s.lw sec s.seedw)
    | .fixed32 => hashFix4 c s.lw sec s.vw (derivedSeed c s.lw sec s.seedw)
  | .dispatch => hashDerived c buf s.lw sec s.seedw
  | .empty => hashFinish c s.lw sec 0 0 s.seedw
  | .tiny =>
    hashFinish c s.lw sec (tinyPack c.tinyShifts (buf 0) (buf (L >>> 1)) (buf (L - 1))) 0 s.seedw
  | .short =>
    hashFinish c s.lw sec ((bufRead32 buf L 0 <<< 32) ||| bufRead32 buf L (L - 4))
      ((bufRead32 buf L (delta L) <<< 32) ||| bufRead32 buf L (L - 4 - delta L)) s.seedw
  | .block =>
    let r := hashLoop c buf L sec s.i.toNat ⟨s.seedw, s.see1, s.see2⟩ s.i.toNat
    hashLast c buf s.lw sec (hashTail c buf L sec (r.1.seed ^^^ r.1.see1 ^^^ r.1.see2) r.2)
  | .fold =>
    hashLast c buf s.lw sec (hashTail c buf L sec (s.seedw ^^^ s.see1 ^^^ s.see2) s.i.toNat)
  | .tail1 => hashLast c buf s.lw sec (hashTail c buf L sec s.seedw s.i.toNat)
  | .tail2 =>
    hashLast c buf s.lw sec (mix c.mixMode (bufRead64 buf L (pos s + 16) ^^^ sec 2)
      (bufRead64 buf L (pos s + 24) ^^^ s.seedw))
  | .last => hashLast c buf s.lw sec s.seedw
  | .final => hashFinish c s.lw sec s.a s.b s.seedw
  | .out => mix c.mixMode (s.a ^^^ sec 0 ^^^ s.lw) (s.b ^^^ sec c.finalBSecret)
  | .fix8 => hashFix8 c s.lw sec s.vw s.seedw
  | .fix4 => hashFix4 c s.lw sec s.vw s.seedw

/-- The number of core steps from a phase to the end of a command that does not abort, by kind, length and
remaining count (70_reset_and_hazards.md R240). -/
def stepsFrom (c : Config) (k : Kind) (L i : Nat) : Phase → Nat
  | .idle => 0
  | .seed => coreSteps c k L
  | .dispatch => coreSteps c .digest L - 1
  | .block => blockCount c i + tailSteps (i - 48 * blockCount c i) + 4
  | .fold => tailSteps i + 4
  | .tail1 => tailSteps i + 3
  | .tail2 => 4
  | .empty | .tiny | .short | .last | .fix8 | .fix4 => 3
  | .final => 2
  | .out => 1

/-- The core steps the command in progress has still to make. -/
def stepsAhead (s : State) : Nat := stepsFrom s.cfg s.kind s.lw.toNat s.i.toNat s.phase

/-- While a block is left the block loop makes one pass more than after that block. -/
theorem blockCount_pass {c : Config} {i : Word} (h : continues c i = true) :
    blockCount c i.toNat =
      (if continues c (i - 48) then blockCount c (i - 48).toNat else 0) + 1 := by
  have hsub := toNat_sub_block (continues_le h)
  cases hc : c.blockLoopInclusive <;>
    simp only [continues, hc, blockCount, hsub, if_true, Bool.false_eq_true, if_false,
      decide_eq_true_eq] at h ⊢ <;>
    split_ifs <;> omega

theorem stepsFrom_afterSeed (c : Config) (k : Kind) (L i : Nat) :
    coreSteps c k L = stepsFrom c k L i (afterSeed k) + 1 := by
  cases k <;> simp only [afterSeed, stepsFrom, coreSteps]
  split_ifs <;> omega

theorem stepsFrom_afterDispatch (c : Config) (k : Kind) (lw i : Word) :
    coreSteps c .digest lw.toNat - 1 =
      stepsFrom c k lw.toNat (if lw.toNat ≤ 16 then i else lw).toNat (afterDispatch lw) + 1 := by
  unfold afterDispatch
  split_ifs <;> simp only [coreSteps, stepsFrom, tailSteps] <;> split_ifs <;> omega

theorem stepsFrom_afterBlock {c : Config} (k : Kind) (L : Nat) {i : Word} (h : continues c i = true) :
    stepsFrom c k L i.toNat .block = stepsFrom c k L (i - 48).toNat (afterBlock c (i - 48)) + 1 := by
  have hle := continues_le h
  have hsub := toNat_sub_block hle
  have hpass := blockCount_pass h
  unfold afterBlock
  split_ifs at hpass ⊢ with hn
  · have : i.toNat - 48 * blockCount c i.toNat =
        (i - 48).toNat - 48 * blockCount c (i - 48).toNat := by omega
    simp only [stepsFrom, this]
    omega
  · have : i.toNat - 48 * blockCount c i.toNat = (i - 48).toNat := by omega
    simp only [stepsFrom, this]
    omega

theorem stepsFrom_afterFold (c : Config) (k : Kind) (L : Nat) (i : Word) :
    stepsFrom c k L i.toNat .fold = stepsFrom c k L i.toNat (afterFold i) + 1 := by
  by_cases h16 : 16 < i.toNat
  · simp only [afterFold, if_pos h16, stepsFrom]
  · simp only [afterFold, if_neg h16, stepsFrom, tailSteps, if_pos (Nat.not_lt.1 h16)]

theorem stepsFrom_afterTail1 (c : Config) (k : Kind) (L : Nat) {i : Word} (h : 16 < i.toNat) :
    stepsFrom c k L i.toNat .tail1 = stepsFrom c k L i.toNat (afterTail1 i) + 1 := by
  by_cases h32 : 32 < i.toNat
  · simp only [afterTail1, if_pos h32, stepsFrom, tailSteps, if_neg (Nat.not_le.2 h),
      if_neg (Nat.not_le.2 h32)]
  · simp only [afterTail1, if_neg h32, stepsFrom, tailSteps, if_neg (Nat.not_le.2 h),
      if_pos (Nat.not_lt.1 h32)]

/-- A core step that does not abort leaves one step less to do. -/
theorem stepsAhead_successor {s t : State} (hidle : s.phase ≠ .idle) (hf : phaseFacts s s.phase)
    (hc : t.cfg = s.cfg) (hk : t.kind = s.kind) (hl : t.lw = s.lw) (hp : t.phase = successor s)
    (hi : t.phase ≠ .idle → t.i = countAfter s) : stepsAhead s = stepsAhead t + 1 := by
  have ht : stepsAhead t = stepsFrom s.cfg s.kind s.lw.toNat (countAfter s).toNat (successor s) := by
    by_cases hti : t.phase = .idle
    · rw [stepsAhead, hti, ← hp, hti]; rfl
    · rw [stepsAhead, hc, hk, hl, hp, hi hti]
  rw [ht, stepsAhead]
  cases h : s.phase <;> rw [h] at hf <;> simp only [successor, countAfter, h]
  case idle => exact absurd h hidle
  case seed => exact stepsFrom_afterSeed _ _ _ _
  case dispatch => exact stepsFrom_afterDispatch _ _ _ _
  case block =>
    obtain ⟨-, -, -, hc⟩ := hf
    exact stepsFrom_afterBlock _ _ hc
  case fold => exact stepsFrom_afterFold _ _ _ _
  case tail1 =>
    obtain ⟨-, h16, -⟩ := hf
    exact stepsFrom_afterTail1 _ _ _ h16
  all_goals rfl

end Sys2Proof.Machine
end

section
/-! ## A core step of a command whose input the host leaves alone -/

namespace Sys2Proof.Machine

/-- The input of the command in progress holds the bytes `buf` and stays so: the memory answers every read,
and no store to it is under way or to come (20_memory.md R69, R73; 70_reset_and_hazards.md R234). -/
structure SteadyInput (buf : Nat → Byte) (s : State) : Prop where
  admits : ∀ j < s.lw.toNat, admitted s.cfg (s.base.toNat + j) = true
  holds : ∀ j < s.lw.toNat, s.mem.read (s.base.toNat + j) = buf j
  notRacing : ∀ j < s.lw.toNat, s.racing.elem (s.base.toNat + j) = false
  quiet : Quiet s s.base.toNat s.lw.toNat

/-! ### Reads of a steady input -/

section
variable {buf : Nat → Byte} {s : State} (h : SteadyInput buf s)
include h

theorem SteadyInput.readable (offs : List Nat) : Readable s offs := fun j _ hj => h.admits j hj

theorem SteadyInput.byte_eq (site j : Nat) : byte s site j = bufByte buf s.lw.toNat j := by
  unfold byte bufByte
  split
  · next hj =>
    have hu := unstable_of_quiet s s.base.toNat s.lw.toNat j h.quiet hj (h.notRacing j hj)
    simp [inputByte, hu, h.holds j hj]
  · rfl

theorem SteadyInput.byte_of_lt (site : Nat) {j : Nat} (hj : j < s.lw.toNat) : byte s site j = buf j := by
  rw [h.byte_eq, bufByte, if_pos hj]

theorem SteadyInput.read64_eq (site off : Nat) : read64 s site off = bufRead64 buf s.lw.toNat off := by
  simp only [read64, bufRead64, h.byte_eq]

theorem SteadyInput.read32_eq (site off : Nat) : read32 s site off = bufRead32 buf s.lw.toNat off := by
  simp only [read32, bufRead32, h.byte_eq]

end

/-! ### Each micro-operation keeps the digest ahead -/

section
variable {buf : Nat → Byte} {s t : State}

/-- A reading step over a steady input gives its result. -/
theorem SteadyInput.readStep_eq (h : SteadyInput buf s) {offs : List Nat} {r : State}
    (hx : readStep offs r s = .next t) : t = { r with draws := s.draws + 1 } := by
  rw [readStep_readable offs r s (h.readable offs)] at hx
  cases hx
  rfl

theorem digestAhead_seed (hp : s.phase = .seed) (hx : exec .seed s = .next t) :
    digestAhead buf t = digestAhead buf s := by
  cases hx
  cases hk : s.kind <;> simp only [digestAhead, hp, hk, afterSeed] <;> rfl

theorem digestAhead_dispatch (hp : s.phase = .dispatch) (hx : exec .dispatch s = .next t) :
    digestAhead buf t = digestAhead buf s := by
  simp only [exec, execDispatch] at hx
  split_ifs at hx with h0 h3 h16 h48 <;> cases hx <;>
    simp only [digestAhead, hashDerived, hashOperands, if_true, if_false, *]
  · rfl
  · rfl
  · rfl
  · simp only [hashFolded, if_neg (Nat.not_lt.2 h48)]
    rfl
  · simp only [hashFolded, if_pos (Nat.lt_of_not_le h48)]
    rfl

theorem digestAhead_tiny (h : SteadyInput buf s) (hp : s.phase = .tiny) (hl : 1 ≤ s.lw.toNat)
    (hx : exec .tiny s = .next t) : digestAhead buf t = digestAhead buf s := by
  have hhalf : s.lw.toNat >>> 1 < s.lw.toNat := by rw [Nat.shiftRight_eq_div_pow]; omega
  rw [h.readStep_eq hx]
  simp only [digestAhead, hp, h.byte_of_lt 0 (j := 0) (by omega), h.byte_of_lt 1 hhalf,
    h.byte_of_lt 2 (j := s.lw.toNat - 1) (by omega)]
  rfl

theorem digestAhead_short (h : SteadyInput buf s) (hp : s.phase = .short)
    (hx : exec .short s = .next t) : digestAhead buf t = digestAhead buf s := by
  rw [h.readStep_eq hx]
  simp only [digestAhead, hp, h.read32_eq]
  rfl

theorem digestAhead_block (h : SteadyInput buf s) (hp : s.phase = .block) (hi : 48 ≤ s.i.toNat)
    (hx : exec .block s = .next t) : digestAhead buf t = digestAhead buf s := by
  rw [h.readStep_eq hx]
  simp only [digestAhead, hp, hashLoop_pass _ _ _ _ _ hi, blockWord, h.read64_eq, afterBlock]
  cases continues s.cfg (s.i - 48) <;> rfl

theorem digestAhead_fold (hp : s.phase = .fold) (hx : exec .fold s = .next t) :
    digestAhead buf t = digestAhead buf s := by
  cases hx
  by_cases h16 : 16 < s.i.toNat
  · simp only [digestAhead, hp, afterFold, if_pos h16]
    rfl
  · simp only [digestAhead, hp, afterFold, if_neg h16, hashTail]
    rfl

theorem digestAhead_tail1 (h : SteadyInput buf s) (hp : s.phase = .tail1) (hi : 16 < s.i.toNat)
    (hx : exec .tail1 s = .next t) : digestAhead buf t = digestAhead buf s := by
  rw [h.readStep_eq hx]
  by_cases h32 : 32 < s.i.toNat
  · simp only [digestAhead, hp, h.read64_eq, afterTail1, hashTail, if_pos hi, if_pos h32]
    rfl
  · simp only [digestAhead, hp, h.read64_eq, afterTail1, hashTail, if_pos hi, if_neg h32]
    rfl

theorem digestAhead_tail2 (h : SteadyInput buf s) (hp : s.phase = .tail2)
    (hx : exec .tail2 s = .next t) : digestAhead buf t = digestAhead buf s := by
  rw [h.readStep_eq hx]
  simp only [digestAhead, hp, h.read64_eq]
  rfl

theorem digestAhead_last (h : SteadyInput buf s) (hp : s.phase = .last)
    (hx : exec .last s = .next t) : digestAhead buf t = digestAhead buf s := by
  rw [h.readStep_eq hx]
  simp only [digestAhead, hp, h.read64_eq]
  rfl

/-- A core step of a command over a steady input leaves the digest ahead as it was. -/
theorem digestAhead_exec {i : Instr} (hi : microOf s.phase = some i) (hf : phaseFacts s s.phase)
    (h : s.kind = .digest → SteadyInput buf s) (hx : exec i s = .next t) :
    digestAhead buf t = digestAhead buf s := by
  cases hp : s.phase <;> rw [hp] at hi hf <;> cases hi
  case seed => exact digestAhead_seed hp hx
  case dispatch => exact digestAhead_dispatch hp hx
  case tiny => exact digestAhead_tiny (h hf.1) hp hf.2.1 hx
  case short => exact digestAhead_short (h hf.1) hp hx
  case block =>
    obtain ⟨hk, -, -, hc⟩ := hf
    exact digestAhead_block (h hk) hp (continues_le hc) hx
  case fold => exact digestAhead_fold hp hx
  case tail1 => exact digestAhead_tail1 (h hf.1) hp hf.2.1 hx
  case tail2 => exact digestAhead_tail2 (h hf.1) hp hx
  case last => exact digestAhead_last (h hf.1) hp hx
  all_goals
    cases hx
    simp only [digestAhead, hp]
    rfl

end

end Sys2Proof.Machine
end

section
/-! ## A whole command whose input the host leaves alone -/

namespace Sys2Proof.Machine

/-! ### Every lawful turn gives a next state -/

theorem readStep_exists (offs : List Nat) (r s : State) : ∃ t, readStep offs r s = .next t := by
  unfold readStep
  split <;> exact ⟨_, rfl⟩

theorem command_exists (f : State → State) (s : State) : ∃ t, command f s = .next t := by
  unfold command
  split <;> exact ⟨_, rfl⟩

/-- No instruction stops the machine. -/
theorem exec_exists (i : Instr) (s : State) : ∃ t, exec i s = .next t := by
  cases i with
  | digest | fixed64 | fixed32 | clrstat => exact command_exists _ s
  | tiny | short | block | tail1 | tail2 | last => exact readStep_exists _ _ s
  | dispatch =>
    simp only [exec, execDispatch]
    split_ifs <;> exact ⟨_, rfl⟩
  | _ => exact ⟨_, rfl⟩

/-- A host event the spec gives an effect for does not stop the machine. -/
theorem hostEvent_exists {e : HostEvent} {s : State} (h : e.wf s.cfg = true) :
    ∃ t, hostEvent e s = .next t := by
  cases e with
  | write | read =>
    simp only [HostEvent.wf] at h
    simp [hostEvent, atOffset, h]
  | storeBegin | store =>
    simp only [HostEvent.wf, decide_eq_true_eq] at h
    simp [hostEvent, inAddressSpace, h]
  | poll | reset => exact ⟨_, rfl⟩
  | irregular | duringReset => cases h

/-- Under a lawful schedule every step gives a next state. -/
theorem step_exists {s : State} (h : ∀ x ∈ s.schedule, lawful s.cfg x = true) : ∃ t, step s = .next t := by
  unfold step
  split
  · exact exec_exists _ _
  · cases hn : nextTurn s with
    | core => exact ⟨_, rfl⟩
    | host e =>
      have hl := h _ (List.mem_of_head? (schedule_head_of_nextTurn hn))
      simp only [lawful, Bool.and_eq_true] at hl
      exact hostEvent_exists (s := advance s) hl.1

/-! ### Stores outside the input -/

/-- A store changes no other byte. -/
theorem read_write_of_ne (m : Memory) {p q : Nat} (v : Byte) (h : q ≠ p) :
    (m.write p v).read q = m.read q := by
  induction m with
  | nil =>
    simp only [Memory.write]
    split_ifs <;> simp [Memory.read, Ne.symm h]
  | cons x m ih =>
    obtain ⟨k, w⟩ := x
    simp only [Memory.write]
    split_ifs with h1 h2 h3 h4
    · rfl
    · simp [Memory.read, h.symm]
    · subst h3
      simp [Memory.read, h.symm]
    · subst h3
      simp [Memory.read, h.symm]
    · simp only [Memory.read, ih]

/-! ### The host's turns -/

/-- Turns taken off a schedule leave no store in it that was not there. -/
theorem any_tail_false {α : Type} {p : α → Bool} {l : List α} (h : l.any p = false) :
    l.tail.any p = false := by
  cases l with
  | nil => rfl
  | cons x l => exact (Bool.or_eq_false_iff.1 h).2

section
variable {buf : Nat → Byte} {s : State}

theorem SteadyInput.withSchedule (h : SteadyInput buf s) {ts : List Turn}
    (hts : ∀ j < s.lw.toNat, ts.any (storesTo (s.base.toNat + j)) = false) :
    SteadyInput buf { s with schedule := ts } :=
  { h with
    quiet := fun j hj => by
      obtain ⟨hf, hv, -⟩ := h.quiet j hj
      exact ⟨hf, hv, hts j hj⟩ }

theorem SteadyInput.tail (h : SteadyInput buf s) (j : Nat) (hj : j < s.lw.toNat) :
    s.schedule.tail.any (storesTo (s.base.toNat + j)) = false :=
  any_tail_false (h.quiet j hj).2.2

theorem SteadyInput.advance (h : SteadyInput buf s) : SteadyInput buf (advance s) :=
  h.withSchedule h.tail

/-- The next turn's store is to no byte of the input. -/
theorem SteadyInput.ne_of_storesTo (h : SteadyInput buf s) {p : Nat} {x : Turn}
    (hs : s.schedule.head? = some x) (hx : ∀ a, storesTo a x = (p == a)) {j : Nat}
    (hj : j < s.lw.toNat) : s.base.toNat + j ≠ p := by
  have hany := List.any_eq_false.1 (h.quiet j hj).2.2 x (List.mem_of_head? hs)
  exact fun he => hany (by rw [hx, he, beq_self_eq_true])

theorem SteadyInput.storeBegins (h : SteadyInput buf s) {p : Nat}
    (hp : ∀ j < s.lw.toNat, s.base.toNat + j ≠ p) : SteadyInput buf (storeBegins p s) :=
  { h with
    quiet := fun j hj => by
      obtain ⟨hf, hv, hs⟩ := h.quiet j hj
      refine ⟨?_, hv, hs⟩
      simpa [hp j hj] using hf }

theorem SteadyInput.storeCompletes (h : SteadyInput buf s) {p : Nat} (v : Byte)
    (hp : ∀ j < s.lw.toNat, s.base.toNat + j ≠ p) : SteadyInput buf (storeCompletes p v s) where
  admits := h.admits
  holds j hj := (read_write_of_ne s.mem v (hp j hj)).trans (h.holds j hj)
  notRacing j hj := by
    have hr := h.notRacing j hj
    simp only [storeCompletes_racing]
    split
    · simpa [hp j hj] using hr
    · exact hr
  quiet j hj := by
    obtain ⟨hf, hv, hs⟩ := h.quiet j hj
    refine ⟨?_, hv, hs⟩
    simp only [List.elem_eq_mem, decide_eq_false_iff_not] at hf ⊢
    exact fun hm => hf (List.mem_of_mem_erase hm)

end

/-- A digest command is in progress and the host leaves it and its input alone. -/
structure Undisturbed (buf : Nat → Byte) (s : State) : Prop where
  busy : s.busy = true
  running : s.phase ≠ .idle
  facts : phaseFacts s s.phase
  turns : ∀ x ∈ s.schedule, lawful s.cfg x = true
  input : s.kind = .digest → SteadyInput buf s

/-- What a turn of the host leaves as it was of a command in progress. -/
structure SameCommand (buf : Nat → Byte) (s t : State) : Prop where
  ahead : digestAhead buf t = digestAhead buf s
  steps : stepsAhead t = stepsAhead s
  digest : t.digest = s.digest
  buserr : t.buserr = s.buserr

/-- What a core step makes of a command that nothing disturbs: it completes the command, or leaves it in progress
with one step less to do, and in either case the digest ahead stays. -/
structure CoreStep (buf : Nat → Byte) (s t : State) : Prop where
  ahead : digestAhead buf t = digestAhead buf s
  steps : stepsAhead s = stepsAhead t + 1
  buserr : t.buserr = s.buserr
  goesOn : (t.phase = .idle ∧ t.busy = false ∧ t.done = true) ∨ (Undisturbed buf t ∧ t.digest = s.digest)

/-- The number of host turns before the next core turn of a schedule. -/
def hostTurnsAhead : List Turn → Nat
  | [] => 0
  | .core :: _ => 0
  | .host _ :: ts => hostTurnsAhead ts + 1

theorem hostTurnsAhead_of_host {s : State} {e : HostEvent} (h : nextTurn s = .host e) :
    hostTurnsAhead s.schedule = hostTurnsAhead s.schedule.tail + 1 := by
  cases hs : s.schedule with
  | nil => simp [nextTurn, hs] at h
  | cons x ts =>
    obtain rfl : x = .host e := by simpa [nextTurn, hs] using h
    rfl

section
variable {buf : Nat → Byte} {s t : State}

theorem Undisturbed.advance (h : Undisturbed buf s) : Undisturbed buf (advance s) :=
  { h with
    turns := fun x hx => h.turns x (List.mem_of_mem_tail hx)
    input := fun hk => (h.input hk).advance }

/-- A lawful host turn leaves the command in progress and its input alone. -/
theorem Undisturbed.host_turn (h : Undisturbed buf s) {e : HostEvent} (hn : nextTurn s = .host e)
    (hs : step s = .next t) :
    Undisturbed buf t ∧ SameCommand buf s t ∧
      (t.schedule = s.schedule.tail ∨ t.schedule = .core :: .host .poll :: s.schedule.tail) := by
  have ha := h.advance
  have hidle : s.busy ≠ false := by simp [h.busy]
  cases step_stepEffect hs with
  | pass => exact ⟨ha, ⟨rfl, rfl, rfl, rfl⟩, .inl rfl⟩
  | dropped off =>
    exact ⟨{ ha with input := fun hk => { ha.input hk with } }, ⟨rfl, rfl, rfl, rfl⟩, .inl rfl⟩
  | illegal w hb => exact absurd hb hidle
  | accepted k ds dk hb => exact absurd hb hidle
  | cleared hf hb => exact absurd hb hidle
  | written r v hb => exact absurd hb hidle
  | read off =>
    exact ⟨{ ha with input := fun hk => { ha.input hk with } }, ⟨rfl, rfl, rfl, rfl⟩, .inl rfl⟩
  | pollAgain =>
    refine ⟨{ ha with turns := ?_, input := fun hk => ?_ }, ⟨rfl, rfl, rfl, rfl⟩, .inr rfl⟩
    · exact List.forall_mem_cons.2 ⟨rfl, List.forall_mem_cons.2 ⟨rfl, ha.turns⟩⟩
    · exact { (ha.input hk).withSchedule (ts := .core :: .host .poll :: s.schedule.tail) fun j hj => by
          simpa [storesTo] using (h.input hk).tail j hj with }
  | storeBegun p hp =>
    exact ⟨{ ha with input := fun hk => (ha.input hk).storeBegins fun j hj =>
      (h.input hk).ne_of_storesTo hp (fun _ => rfl) hj }, ⟨rfl, rfl, rfl, rfl⟩, .inl rfl⟩
  | stored p v hp =>
    exact ⟨{ ha with input := fun hk => (ha.input hk).storeCompletes v fun j hj =>
      (h.input hk).ne_of_storesTo hp (fun _ => rfl) hj }, ⟨rfl, rfl, rfl, rfl⟩, .inl rfl⟩
  | reset hr =>
    have hl := h.turns _ (List.mem_of_head? hr)
    simp [lawful] at hl
  | micro i t hf hi =>
    obtain ⟨-, w, -, -, hd⟩ := fetch_host s e i hn hf
    have := decodeCommand_isCommand hd
    rw [microOf_isCommand hi] at this
    cases this

/-! ### The core's turns -/

/-- A phase that reads input belongs to a DIGEST command. -/
theorem readSet_nil_or_digest {i : Instr} (hi : microOf s.phase = some i) (hf : phaseFacts s s.phase) :
    readSet i s = [] ∨ s.kind = .digest := by
  cases hp : s.phase <;> rw [hp] at hi hf <;> cases hi
  case tiny | short | block | tail1 | tail2 | last => exact .inr hf.1
  all_goals exact .inl rfl

theorem Undisturbed.readable (h : Undisturbed buf s) {i : Instr} (hi : microOf s.phase = some i) :
    Readable s (readSet i s) := by
  rcases readSet_nil_or_digest hi h.facts with hr | hk
  · exact readable_of_reads_nothing hr
  · exact (h.input hk).readable _

theorem Undisturbed.exec_micro (h : Undisturbed buf s) {i : Instr} (hi : microOf s.phase = some i)
    (hx : exec i s = .next t) : CoreStep buf s t := by
  have hread := h.readable hi
  obtain ⟨hp, hc⟩ := exec_successor hi hread hx
  have hahead := digestAhead_exec hi h.facts h.input hx
  obtain ⟨hidle, hiff⟩ := microOf_out_iff hi
  cases exec_microEffect (microOf_isCommand hi) hx with
  | abort p hr => exact absurd ((refusedIn_some_iff _ _ _).2 hr) (by simp [(refusedIn_none_iff _ _).2 hread])
  | complete _ d =>
    exact ⟨hahead, stepsAhead_successor hidle h.facts rfl rfl rfl hp hc, rfl, .inl ⟨rfl, rfl, rfl⟩⟩
  | work hout _ x =>
    refine ⟨hahead, stepsAhead_successor hidle h.facts rfl rfl rfl hp hc, rfl, .inr ⟨?_, rfl⟩⟩
    exact { h with
      running := by rw [hp, Ne, successor_eq_idle_iff hidle, ← hiff]; exact hout
      facts := phaseFacts_after h.facts rfl rfl rfl hp hc
      input := fun hk => { h.input hk with } }

theorem Undisturbed.core_turn (h : Undisturbed buf s) (hn : nextTurn s = .core)
    (hs : step s = .next t) : CoreStep buf s t := by
  obtain ⟨i, hi⟩ : ∃ i, microOf s.phase = some i := by
    have := h.running
    cases hp : s.phase <;> simp_all [microOf]
  rw [step_of_fetch ((fetch_core s hn).trans hi)] at hs
  exact { h.advance.exec_micro hi hs with }

end

/-! ### The run to the end -/

theorem run_succ {s u : State} (h : step s = .next u) (n : Nat) :
    Sys2Proof.core.run (n + 1) s = Sys2Proof.core.run n u := by
  have hs : Sys2Proof.core.step s = .next u := h
  simp only [Host.Core.run, hs]

theorem coreTurns_succ {s u : State} (h : step s = .next u) (n : Nat) :
    coreTurns (n + 1) s = (if nextTurn s = .core then 1 else 0) + coreTurns n u := by
  simp [coreTurns, h]

/-- A turn that ends the command. -/
theorem CommandEnds.single {s t : State} (hs : step s = .next t) (hp : t.phase = .idle)
    (hb : t.busy = false) : CommandEnds s 1 (if nextTurn s = .core then 1 else 0) t where
  run := run_succ hs 0
  cores := coreTurns_succ hs 0
  idle := hp
  notBusy := hb
  before m u h0 h1 := by omega

/-- A turn before the turns that end the command. -/
theorem CommandEnds.cons {s u t : State} {n k : Nat} (hs : step s = .next u) (hb : u.busy = true)
    (hd : u.digest = s.digest) (h : CommandEnds u n k t) :
    CommandEnds s (n + 1) ((if nextTurn s = .core then 1 else 0) + k) t where
  run := (run_succ hs n).trans h.run
  cores := by rw [coreTurns_succ hs, h.cores]
  idle := h.idle
  notBusy := h.notBusy
  before m v h0 hm hv := by
    obtain ⟨m, rfl⟩ : ∃ j, m = j + 1 := ⟨m - 1, by omega⟩
    rw [run_succ hs] at hv
    cases m with
    | zero => cases hv; exact ⟨hb, hd⟩
    | succ m =>
      obtain ⟨hbv, hdv⟩ := h.before (m + 1) v (by omega) (by omega) hv
      exact ⟨hbv, hdv.trans hd⟩

/-- An undisturbed command completes with exactly its core steps and leaves the digest ahead. -/
theorem Undisturbed.ends {buf : Nat → Byte} {s : State} (h : Undisturbed buf s) :
    ∃ n t, CommandEnds s n (stepsAhead s) t ∧ t.digest = digestAhead buf s ∧ t.done = true ∧
      t.buserr = s.buserr := by
  obtain ⟨u, hs⟩ := step_exists h.turns
  cases hn : nextTurn s with
  | core =>
    obtain ⟨hahead, hsteps, he, ⟨hp, hb, hd⟩ | ⟨hu, hd⟩⟩ := h.core_turn hn hs
    · have h0 : stepsAhead u = 0 := by rw [stepsAhead, hp]; rfl
      have hdig : digestAhead buf u = u.digest := by simp only [digestAhead, hp]
      refine ⟨1, u, ?_, hdig ▸ hahead, hd, he⟩
      simpa [hn, hsteps, h0] using CommandEnds.single hs hp hb
    · obtain ⟨n, t, hends, hdig, hdone, het⟩ := hu.ends
      refine ⟨n + 1, t, ?_, hdig.trans hahead, hdone, het.trans he⟩
      simpa [hn, hsteps, Nat.add_comm] using hends.cons hs hu.busy hd
  | host e =>
    obtain ⟨hu, hsame, hsched⟩ := h.host_turn hn hs
    obtain ⟨n, t, hends, hdig, hdone, het⟩ := hu.ends
    refine ⟨n + 1, t, ?_, hdig.trans hsame.ahead, hdone, het.trans hsame.buserr⟩
    simpa [hn, hsame.steps] using hends.cons hs hu.busy hsame.digest
termination_by (stepsAhead s, hostTurnsAhead s.schedule)
decreasing_by
  · exact Prod.Lex.left _ _ (by omega)
  · rw [hsame.steps]
    refine Prod.Lex.right _ ?_
    rw [hostTurnsAhead_of_host hn]
    rcases hsched with hsched | hsched <;> rw [hsched]
    · exact Nat.lt_succ_self _
    · exact Nat.succ_pos _

end Sys2Proof.Machine
end

section
/-! ## Equal inputs give equal digests -/

namespace Sys2Proof.Machine

/-! ### From the write to CMD to the end -/

/-- The latched secret is the secret operand (10_state.md R43). -/
theorem secretW_accept (k : Kind) (ds dk : Bool) (s : State) :
    secretW (accept k ds dk s) = secretOperand dk s := by
  funext j
  fin_cases j <;> rfl

/-- The digest command that a command word starts, by its OP (30_encoding.md R83). -/
def commandOf (k : Kind) (ds dk : Bool) : Instr :=
  match k with
  | .digest => .digest ds dk
  | .fixed64 => .fixed64 ds dk
  | .fixed32 => .fixed32 ds dk

/-- OP of the command that starts a kind of digest command (30_encoding.md R83). -/
def opOf : Kind → BitVec 4
  | .digest => 1
  | .fixed64 => 2
  | .fixed32 => 3

theorem decode_commandOf (k : Kind) (ds dk : Bool) :
    decode (.command (commandWord (opOf k) ds dk)) = .ok (commandOf k ds dk) := by
  cases k <;> cases ds <;> cases dk <;> rfl

theorem exec_commandOf (k : Kind) (ds dk : Bool) {s : State} (hb : s.busy = false) :
    exec (commandOf k ds dk) s = .next (accept k ds dk s) := by
  cases k <;> exact command_idle _ s hb

section
variable {buf : Nat → Byte} {s : State} {k : Kind} {ds dk : Bool} {rest : List Turn}

/-- The state right after the accept of a command word that stood next in the schedule. -/
theorem step_accept (hb : s.busy = false)
    (hs : s.schedule = .host (.write 0x00 (commandWord (opOf k) ds dk)) :: rest) :
    step s = .next (accept k ds dk (advance s)) := by
  have hn : nextTurn s = .host (.write 0x00 (commandWord (opOf k) ds dk)) := by simp [nextTurn, hs]
  rw [step_of_fetch (fetch_of_command hn rfl (decode_commandOf k ds dk))]
  exact exec_commandOf k ds dk hb

/-- A command accepted over an input that the host leaves alone runs to its end. -/
theorem accepted_ends (hb : s.busy = false)
    (hs : s.schedule = .host (.write 0x00 (commandWord (opOf k) ds dk)) :: rest)
    (hrest : ∀ x ∈ rest, lawful s.cfg x = true)
    (hin : k = .digest → SteadyInput buf (accept k ds dk (advance s))) :
    ∃ n t, CommandEnds s n (coreSteps s.cfg k (lengthOf k s).toNat) t ∧
      t.digest = digestAhead buf (accept k ds dk (advance s)) ∧ t.done = true ∧
      t.buserr = s.buserr := by
  have hu : Undisturbed buf (accept k ds dk (advance s)) :=
    { busy := rfl
      running := nofun
      facts := trivial
      turns := by simpa [hs] using hrest
      input := hin }
  obtain ⟨n, t, hends, hdig, hdone, he⟩ := hu.ends
  have hcons := hends.cons (step_accept hb hs) rfl rfl
  refine ⟨n + 1, t, ?_, hdig, hdone, he⟩
  have hn : nextTurn s ≠ .core := by simp [nextTurn, hs]
  have hk : stepsAhead (accept k ds dk (advance s)) = coreSteps s.cfg k (lengthOf k s).toNat := by
    cases k <;> rfl
  simpa [hn, hk] using hcons

/-- The input of an accepted DIGEST command is steady when the buffer is admitted and the host keeps it. -/
theorem steadyInput_accept (hadm : ∀ j < s.len.toNat, admitted s.cfg (s.src.toNat + j) = true)
    (hbuf : ∀ j < s.len.toNat, s.mem.read (s.src.toNat + j) = buf j)
    (hq : Quiet s s.src.toNat s.len.toNat) :
    SteadyInput buf (accept .digest ds dk (advance s)) where
  admits := hadm
  holds := hbuf
  notRacing _ _ := rfl
  quiet j hj := by
    obtain ⟨hf, hv, ht⟩ := hq j hj
    exact ⟨hf, hv, any_tail_false ht⟩

/-- A DIGEST command over admitted bytes that the host keeps leaves RAPIDHASH of them (46_commands.md R184,
R189). -/
theorem digestCommand_ends (hb : s.busy = false)
    (hs : s.schedule = .host (.write 0x00 (commandWord 1 ds dk)) :: rest)
    (hrest : ∀ x ∈ rest, lawful s.cfg x = true)
    (hadm : ∀ j < s.len.toNat, admitted s.cfg (s.src.toNat + j) = true)
    (hbuf : ∀ j < s.len.toNat, s.mem.read (s.src.toNat + j) = buf j)
    (hq : Quiet s s.src.toNat s.len.toNat) :
    ∃ n t, CommandEnds s n (coreSteps s.cfg .digest s.len.toNat) t ∧
      t.digest = rapidhash s.cfg buf s.len (seedOperand ds s) (secretOperand dk s) ∧
      t.done = true ∧ t.buserr = s.buserr := by
  obtain ⟨n, t, hends, hdig, hdone, he⟩ := accepted_ends (k := .digest) hb hs hrest
    fun _ => steadyInput_accept hadm hbuf hq
  refine ⟨n, t, hends, hdig.trans ?_, hdone, he⟩
  simp only [digestAhead, accept_phase, accept_kind, secretW_accept]
  rfl

/-- What a FIXED64 command leaves (46_commands.md R185; 45_fixed_width.md R170). -/
theorem fixed64Command_ends (hb : s.busy = false)
    (hs : s.schedule = .host (.write 0x00 (commandWord 2 ds dk)) :: rest)
    (hrest : ∀ x ∈ rest, lawful s.cfg x = true) :
    ∃ n t, CommandEnds s n 4 t ∧
      t.digest = hashFix8 s.cfg 8 (secretOperand dk s) s.value
        (derivedSeed s.cfg 8 (secretOperand dk s) (seedOperand ds s)) ∧
      t.done = true ∧ t.buserr = s.buserr := by
  obtain ⟨n, t, hends, hdig, hdone, he⟩ :=
    accepted_ends (buf := fun _ => 0) (k := .fixed64) hb hs hrest nofun
  refine ⟨n, t, hends, hdig.trans ?_, hdone, he⟩
  simp only [digestAhead, accept_phase, accept_kind, secretW_accept]
  rfl

/-- What a FIXED32 command leaves (46_commands.md R185; 45_fixed_width.md R171). -/
theorem fixed32Command_ends (hb : s.busy = false)
    (hs : s.schedule = .host (.write 0x00 (commandWord 3 ds dk)) :: rest)
    (hrest : ∀ x ∈ rest, lawful s.cfg x = true) :
    ∃ n t, CommandEnds s n 4 t ∧
      t.digest = hashFix4 s.cfg 4 (secretOperand dk s) s.value
        (derivedSeed s.cfg 4 (secretOperand dk s) (seedOperand ds s)) ∧
      t.done = true ∧ t.buserr = s.buserr := by
  obtain ⟨n, t, hends, hdig, hdone, he⟩ :=
    accepted_ends (buf := fun _ => 0) (k := .fixed32) hb hs hrest nofun
  refine ⟨n, t, hends, hdig.trans ?_, hdone, he⟩
  simp only [digestAhead, accept_phase, accept_kind, secretW_accept]
  rfl

end

/-! ### Two machines -/

theorem seedOperand_congr {s t : State} (ds : Bool) (h : s.seed = t.seed) :
    seedOperand ds s = seedOperand ds t := by simp only [seedOperand, h]

theorem secretOperand_congr {s t : State} (dk : Bool) (h0 : s.secret0 = t.secret0)
    (h1 : s.secret1 = t.secret1) (h2 : s.secret2 = t.secret2) :
    secretOperand dk s = secretOperand dk t := by
  funext j
  fin_cases j <;> simp [secretOperand, secretReg, h0, h1, h2]

/-- FIXED32 reads the low half of VALUE only (45_fixed_width.md R171). -/
theorem hashFix4_congr (c : Config) (L : Word) (sec : Fin 3 → Word) {v w : Word} (seed : Word)
    (h : v.setWidth 32 = w.setWidth 32) : hashFix4 c L sec v seed = hashFix4 c L sec w seed := by
  simp only [hashFix4, doubleLow, h]

/-- Settles O60: what each kind of command leaves is a function of the operands and the input bytes. -/
theorem equalInputsGiveEqualDigests : Obligations.EqualInputsGiveEqualDigests := by
  intro s t op ds dk rest rest' hbs hbt hss hst hls hlt hcfg hseed h0 h1 h2 hop
  have hseedop := seedOperand_congr ds hseed
  have hsec := secretOperand_congr dk h0 h1 h2
  rcases hop with ⟨rfl, hlen, hin, hqs, hqt⟩ | ⟨rfl, hv⟩ | ⟨rfl, hv⟩
  · obtain ⟨m, s', hs', hds, hdone, -⟩ := digestCommand_ends (buf := fun j => s.mem.read (s.src.toNat + j))
      hbs hss hls (fun j hj => (hin j hj).1) (fun _ _ => rfl) hqs
    obtain ⟨n, t', ht', hdt, hdone', -⟩ := digestCommand_ends (buf := fun j => s.mem.read (s.src.toNat + j))
      hbt hst hlt (fun j hj => (hin j (hlen ▸ hj)).2.1) (fun j hj => (hin j (hlen ▸ hj)).2.2.symm) hqt
    rw [← hcfg, ← hlen] at ht' hdt
    exact ⟨m, n, _, s', t', hs', ht', fun _ => rfl, hdone, hdone',
      by rw [hds, hdt, hseedop, hsec]⟩
  · obtain ⟨m, s', hs', hds, hdone, -⟩ := fixed64Command_ends hbs hss hls
    obtain ⟨n, t', ht', hdt, hdone', -⟩ := fixed64Command_ends hbt hst hlt
    exact ⟨m, n, 4, s', t', hs', ht', fun h => absurd h (by decide), hdone, hdone',
      by rw [hds, hdt, hcfg, hseedop, hsec, hv]⟩
  · obtain ⟨m, s', hs', hds, hdone, -⟩ := fixed32Command_ends hbs hss hls
    obtain ⟨n, t', ht', hdt, hdone', -⟩ := fixed32Command_ends hbt hst hlt
    exact ⟨m, n, 4, s', t', hs', ht', fun h => absurd h (by decide), hdone, hdone',
      by rw [hds, hdt, hcfg, hseedop, hsec, hashFix4_congr _ _ _ _ hv]⟩

end Sys2Proof.Machine
end

section
/-! ## Reads of the input memory -/

namespace Sys2Proof.Machine

/-! ### One byte -/

/-- A stable read inside the input returns the byte the memory holds (20_memory.md R61). -/
theorem byte_of_stable {s : State} (site : Nat) {j : Nat} (hj : j < s.lw.toNat)
    (hu : unstable s (s.base.toNat + j) = false) : byte s site j = s.mem.read (s.base.toNat + j) := by
  simp [byte, hj, inputByte, hu]

/-- There is no input at or past `L`: such a byte is 0 (20_memory.md R63). -/
theorem byte_of_le {s : State} (site : Nat) {j : Nat} (hj : s.lw.toNat ≤ j) : byte s site j = 0 :=
  if_neg (Nat.not_lt.2 hj)

/-- Settles O24: the two sides of `L`. -/
theorem inputBytesComeFromBasePlusOffset : Obligations.InputBytesComeFromBasePlusOffset :=
  fun _ site _ => ⟨byte_of_stable site, byte_of_le site⟩

/-! ### Words assembled from bytes -/

/-- Bit `i` of a little-endian word is bit `i % 8` of its byte `i / 8` (20_memory.md R60). -/
theorem leWord_getLsbD (bs : List Byte) {i : Nat} (hi : i < 64) :
    (leWord bs).getLsbD i = (bs[i / 8]?.getD 0).getLsbD (i % 8) := by
  induction bs generalizing i with
  | nil => simp [leWord]
  | cons b bs ih =>
    simp only [leWord, BitVec.getLsbD_or, BitVec.getLsbD_setWidth, BitVec.getLsbD_shiftLeft, hi,
      decide_true, Bool.true_and]
    by_cases h8 : i < 8
    · have hdiv : i / 8 = 0 := by omega
      have hmod : i % 8 = i := by omega
      simp [h8, hdiv, hmod]
    · have hdiv : i / 8 = (i - 8) / 8 + 1 := by omega
      have hmod : i % 8 = (i - 8) % 8 := by omega
      have hb : b.getLsbD i = false := BitVec.getLsbD_of_ge b i (by omega)
      rw [hb, ih (by omega), hdiv, hmod]
      simp [h8]

/-- Byte `k` of a little-endian word is the `k`-th of its bytes. -/
theorem leWord_byte (bs : List Byte) {k : Nat} (hk : k < 8) :
    (leWord bs).extractLsb' (8 * k) 8 = bs[k]?.getD 0 := by
  ext j hj
  have hdiv : (8 * k + j) / 8 = k := by omega
  have hmod : (8 * k + j) % 8 = j := by omega
  rw [BitVec.getElem_extractLsb', leWord_getLsbD bs (by omega), hdiv, hmod, BitVec.getLsbD_eq_getElem]

/-- A little-endian word is 0 above its bytes. -/
theorem leWord_high (bs : List Byte) {i : Nat} (hi : i < 64) (hl : 8 * bs.length ≤ i) :
    (leWord bs).getLsbD i = false := by
  rw [leWord_getLsbD bs hi, List.getElem?_eq_none (by omega)]
  exact BitVec.getLsbD_zero

/-- Settles O25: a window is a little-endian word of its bytes. -/
theorem windowsAreLittleEndian : Obligations.WindowsAreLittleEndian := by
  intro s site off
  refine ⟨fun k hk => ?_, fun k hk => ?_, extractLsb'_eq_zero fun k hk => leWord_high _ (by omega) ?_⟩
  · rw [read64, leWord_byte _ hk]
    simp [hk]
  · rw [read32, leWord_byte _ (by omega)]
    simp [hk]
  · simp

/-- The little-endian word of the `n` low bytes of `v` has the `8 * n` low bits of `v`. -/
theorem leWord_bytesLe_getLsbD (v : Word) (n : Nat) {i : Nat} (hi : i < 64) :
    (leWord (bytesLe v n)).getLsbD i = (decide (i < 8 * n) && v.getLsbD i) := by
  by_cases hn : i < 8 * n
  · have hdiv : i / 8 < n := by omega
    have hmod : i % 8 < 8 := Nat.mod_lt _ (by decide)
    rw [leWord_getLsbD _ hi]
    simp [bytesLe, hdiv, hn, hmod, Nat.div_add_mod]
  · rw [leWord_high _ hi (by simp [bytesLe]; omega)]
    simp [hn]

/-- A run of bytes that agrees with `bytesLe v n` is `bytesLe v n`. -/
theorem map_range_eq_bytesLe {f : Nat → Byte} {v : Word} {n : Nat}
    (h : ∀ k < n, some (f k) = (bytesLe v n)[k]?) : (List.range n).map f = bytesLe v n := by
  refine List.ext_getElem? fun k => ?_
  by_cases hk : k < n
  · rw [← h k hk]
    simp [hk]
  · simp [bytesLe, hk]

/-- Settles O26: bit by bit, the word of the bytes of `v` is `v`, or its low half. -/
theorem readingBytesLeReturnsTheValue : Obligations.ReadingBytesLeReturnsTheValue := by
  intro s site off v
  refine ⟨fun h => ?_, fun h => ?_⟩
  · rw [read64, map_range_eq_bytesLe h]
    ext i hi
    rw [← BitVec.getLsbD_eq_getElem, leWord_bytesLe_getLsbD v 8 hi]
    simp [hi]
  · rw [read32, map_range_eq_bytesLe h]
    ext i hi
    rw [← BitVec.getLsbD_eq_getElem, leWord_bytesLe_getLsbD v 4 hi]
    simp [hi]

/-! ### What stores and instructions make of the memory -/

/-- An address below all listed ones reads as unlisted. -/
theorem read_of_lt {m : Memory} {p : Nat} (h : ∀ x ∈ m, p < x.1) : m.read p = unlistedByte := by
  induction m with
  | nil => rfl
  | cons x m ih =>
    obtain ⟨hx, hm⟩ := List.forall_mem_cons.1 h
    rw [Memory.read, if_neg (Nat.ne_of_gt hx), ih hm]

/-- A store to a memory in canonical form reads back: an entry is left out only where the address then reads
as unlisted. -/
theorem read_write_self {m : Memory} (p : Nat) (v : Byte) (h : m.wf = true) :
    (m.write p v).read p = v := by
  induction m with
  | nil =>
    simp only [Memory.write]
    split_ifs with hv
    · exact hv.symm
    · simp [Memory.read]
  | cons x m ih =>
    obtain ⟨k, w⟩ := x
    obtain ⟨hlt, -, hm⟩ := (memory_wf_cons (k, w) m).1 h
    simp only [Memory.write]
    split_ifs with hpk hv heq hv
    · rw [hv]
      exact read_of_lt (List.forall_mem_cons.2 ⟨hpk, fun x hx => hpk.trans (hlt x hx)⟩)
    · simp [Memory.read]
    · rw [hv]
      exact read_of_lt fun x hx => heq ▸ hlt x hx
    · simp [Memory.read]
    · rw [Memory.read, if_neg (Ne.symm heq), ih hm]

/-- Settles O27: the stored byte, and every other one. -/
theorem storedBytesReadBack : Obligations.StoredBytesReadBack := by
  intro m p q v h
  split_ifs with hq
  · exact hq ▸ read_write_self p v h
  · exact read_write_of_ne m v hq

/-- No effect of a command or of a micro-operation is on the memory (20_memory.md R62). -/
theorem exec_mem {i : Instr} {s t : State} (h : exec i s = .next t) : t.mem = s.mem := by
  cases hc : i.isCommand
  · cases exec_microEffect hc h with
    | abort p => simp
    | complete _ d => rfl
    | work _ _ x => rfl
  · cases exec_commandEffect hc h with
    | dropped => simp
    | cleared => rfl
    | accepted => rfl

/-- Settles O28: the same memory has the same bytes. -/
theorem noInstructionWritesMemory : Obligations.NoInstructionWritesMemory := by
  intro i s t h
  have hm := exec_mem h
  exact ⟨hm, fun p => by rw [hm]⟩

/-! ### Where the core reads -/

theorem mem_window {off n j : Nat} : j ∈ window off n ↔ off ≤ j ∧ j < off + n := by
  simp only [window, List.mem_map, List.mem_range]
  constructor
  · rintro ⟨k, hk, rfl⟩
    omega
  · rintro ⟨hl, hu⟩
    exact ⟨j - off, by omega, by omega⟩

/-- A window that ends inside the input lies inside it. -/
theorem lt_of_mem_window {off n L j : Nat} (h : off + n ≤ L) (hj : j ∈ window off n) : j < L :=
  (mem_window.1 hj).2.trans_le h

/-- A phase code decodes to the micro-operation the phase names. -/
theorem microOf_of_decode {p : Phase} {i : Instr} (h : decode (.phase p.code) = .ok i) :
    microOf p = some i := by
  cases p <;> cases h <;> rfl

/-- SHORT's window at `delta` and its mirror image fit (42_seed_dispatch.md R130). -/
theorem delta_add_four_le : ∀ L ≤ 16, 4 ≤ L → delta L + 4 ≤ L := by decide

theorem lt_of_mem_tinyReads {L j : Nat} (hL : 1 ≤ L) (hj : j ∈ tinyReads L) : j < L := by
  have hhalf : L >>> 1 < L := by rw [Nat.shiftRight_eq_div_pow]; omega
  simp only [tinyReads, List.mem_cons, List.not_mem_nil, or_false] at hj
  omega

theorem lt_of_mem_shortReads {L j : Nat} (h4 : 4 ≤ L) (h16 : L ≤ 16) (hj : j ∈ shortReads L) :
    j < L := by
  have hd := delta_add_four_le L h16 h4
  simp only [shortReads, List.mem_append, mem_window] at hj
  omega

/-- The entry conditions of a phase keep its micro-operation's reads inside the input. -/
theorem lt_of_mem_readSet {s : State} {i : Instr} (hi : microOf s.phase = some i)
    (hf : phaseFacts s s.phase) {j : Nat} (hj : j ∈ readSet i s) : j < s.lw.toNat := by
  cases hp : s.phase <;> rw [hp] at hi hf <;> cases hi
  case tiny =>
    obtain ⟨-, h1, -⟩ := hf
    exact lt_of_mem_tinyReads h1 hj
  case short =>
    obtain ⟨-, h4, h16⟩ := hf
    exact lt_of_mem_shortReads h4 h16 hj
  case block =>
    obtain ⟨-, -, hle, hc⟩ := hf
    have h48 := continues_le hc
    exact lt_of_mem_window (by unfold pos; omega) hj
  case tail1 =>
    obtain ⟨-, h16, -, hle⟩ := hf
    exact lt_of_mem_window (by unfold pos; omega) hj
  case tail2 =>
    obtain ⟨-, h32, -, hle⟩ := hf
    exact lt_of_mem_window (by unfold pos; omega) hj
  case last =>
    obtain ⟨-, h16⟩ := hf
    exact lt_of_mem_window (by omega) hj
  all_goals cases hj

/-- Settles O51: the invariant has the entry conditions of the phase. -/
theorem readsStayInsideTheInput : Obligations.ReadsStayInsideTheInput :=
  fun _ _ hs hd _ hj => lt_of_mem_readSet (microOf_of_decode hd) hs.phase_facts hj

end Sys2Proof.Machine
end

section
/-! ## Host stores and the command in progress -/

namespace Sys2Proof.Machine

/-! ### A host's turn -/

/-- A host's turn that writes no register issues no instruction. -/
theorem fetch_host_none {s : State} {e : HostEvent} (hn : nextTurn s = .host e)
    (he : ∀ off w, e ≠ .write off w) : fetch s = none := by
  cases hf : fetch s with
  | none => rfl
  | some i =>
    obtain ⟨off, w, rfl, -, -⟩ := fetch_host s e i hn hf
    exact absurd rfl (he off w)

/-- Such a turn is the host event alone. -/
theorem step_of_host {s : State} {e : HostEvent} (hn : nextTurn s = .host e)
    (he : ∀ off w, e ≠ .write off w) : step s = hostEvent e (advance s) := by
  simp [step, fetch_host_none hn he, hn, otherTurn]

theorem step_store {s : State} {p : Nat} {v : Byte} (h : s.schedule.head? = some (.host (.store p v)))
    (hp : p < 2 ^ s.cfg.addrWidth) : step s = .next (storeCompletes p v (advance s)) :=
  (step_of_host ((nextTurn_host_iff s _).2 h) nofun).trans (if_pos hp)

theorem step_storeBegin {s : State} {p : Nat} (h : s.schedule.head? = some (.host (.storeBegin p)))
    (hp : p < 2 ^ s.cfg.addrWidth) : step s = .next (storeBegins p (advance s)) :=
  (step_of_host ((nextTurn_host_iff s _).2 h) nofun).trans (if_pos hp)

/-- A store outside the memory stops the machine (log entry 5). -/
theorem step_store_outside {s : State} {p : Nat} {v : Byte} (hp : 2 ^ s.cfg.addrWidth ≤ p)
    (h : s.schedule.head? = some (.host (.store p v)) ∨ s.schedule.head? = some (.host (.storeBegin p))) :
    step s = .fault (.noSuchAddress p) := by
  rcases h with h | h <;>
    exact (step_of_host ((nextTurn_host_iff s _).2 h) nofun).trans (if_neg (Nat.not_lt.2 hp))

/-- CMD stands at offset 0 only (10_state.md R22). -/
theorem regAt_cmd {off : Offset} (h : regAt off = some .cmd) : off.toNat = 0 := by
  unfold regAt at h
  split at h
  case h_1 h0 => exact h0
  all_goals cases h

/-- A host's turn that does not stop the machine is an event the spec gives an effect for. -/
theorem hostEvent_wf_of_step {s t : State} {e : HostEvent} (hn : nextTurn s = .host e)
    (h : step s = .next t) : e.wf s.cfg = true := by
  rcases step_next_cases s t h with ⟨i, hf, -⟩ | ⟨-, hc, -⟩ | ⟨e', -, he, hx⟩
  · obtain ⟨off, w, rfl, hr, -⟩ := fetch_host s e i hn hf
    simp [HostEvent.wf, offsetWf, regAt_cmd hr]
  · rw [hn] at hc
    cases hc
  · obtain rfl : e = e' := by simpa [hn] using he
    cases e with
    | write | read => exact (atOffset_next _ _ _ _ hx).1
    | storeBegin | store => exact decide_eq_true (inAddressSpace_next _ _ _ _ hx).1
    | poll | reset => rfl
    | irregular | duringReset => cases hx

/-! ### What the look ahead sees of a state -/

/-- Two states agree in all that the sequencer's control reads (43_block_loop.md R147). -/
structure SameControl (s t : State) : Prop where
  cfg : s.cfg = t.cfg
  kind : s.kind = t.kind
  lw : s.lw = t.lw
  base : s.base = t.base
  phase : s.phase = t.phase
  i : s.i = t.i

section
variable {s t : State}

theorem SameControl.trans {u : State} (h : SameControl s t) (h' : SameControl t u) : SameControl s u :=
  ⟨h.cfg.trans h'.cfg, h.kind.trans h'.kind, h.lw.trans h'.lw, h.base.trans h'.base,
    h.phase.trans h'.phase, h.i.trans h'.i⟩

theorem SameControl.readSet_eq (h : SameControl s t) (i : Instr) : readSet i s = readSet i t := by
  cases i <;> simp only [readSet, pos, h.lw, h.i]

theorem SameControl.refusedIn_eq (h : SameControl s t) (offs : List Nat) :
    refusedIn s offs = refusedIn t offs := by
  simp only [refusedIn, h.lw, h.base, h.cfg]

theorem SameControl.successor_eq (h : SameControl s t) : successor s = successor t := by
  simp only [successor, h.phase, h.kind, h.lw, h.cfg, h.i]

theorem SameControl.countAfter_eq (h : SameControl s t) : countAfter s = countAfter t := by
  simp only [countAfter, h.phase, h.lw, h.i]

theorem SameControl.controlStep (h : SameControl s t) : SameControl (controlStep s) (controlStep t) := by
  unfold Machine.controlStep
  rw [← h.phase]
  cases microOf s.phase with
  | none => exact h
  | some m =>
    simp only [← h.readSet_eq m, ← h.refusedIn_eq]
    cases refusedIn s (readSet m s) with
    | none => exact { h with phase := h.successor_eq, i := h.countAfter_eq }
    | some a => exact { h with phase := rfl }

/-- The look ahead depends on the control alone. -/
theorem storeAhead_congr (h : SameControl s t) (p : Nat) (ts : List Turn) :
    storeAhead p ts s = storeAhead p ts t := by
  induction ts generalizing s t with
  | nil => rfl
  | cons x ts ih =>
    cases x with
    | core => simp only [storeAhead, ih h.controlStep, h.controlStep.phase]
    | host e => cases e <;> simp only [storeAhead, ih h, h.cfg]

/-- A core step that leaves the command in progress does to the control what the look ahead takes it to do. -/
theorem exec_sameControl {i : Instr} (hi : microOf s.phase = some i) (hx : exec i s = .next t)
    (hp : t.phase ≠ .idle) : SameControl t (controlStep s) ∧ t.schedule = s.schedule := by
  obtain ⟨hphase, hcount⟩ := exec_control s t i hi hx
  obtain ⟨hcfg, -, -, -, -, -, -, -, hkind, hlw, hbase, -, -, -, -, -, -, -, hsched⟩ :=
    microOperationsKeepOperandsAndSecrets i s t (microOf_isCommand hi) hx
  exact ⟨⟨by simpa, by simpa, by simpa, by simpa, hphase, hcount hp⟩, hsched⟩

/-- A store that comes next is ahead. -/
theorem storeAhead_of_storesTo {p : Nat} {x : Turn} {ts : List Turn} (hs : s.schedule = x :: ts)
    (hx : storesTo p x = true) (hp : p < 2 ^ s.cfg.addrWidth) : storeAhead p s.schedule s = true := by
  rw [hs]
  cases x with
  | core => cases hx
  | host e =>
    cases e with
    | storeBegin q | store q =>
      obtain rfl : q = p := by simpa [storesTo] using hx
      simp [storeAhead, hp]
    | _ => cases hx

/-- A host's turn that neither stops the machine nor ends the command keeps what is ahead of it in sight. -/
theorem storeAhead_cons_host {p : Nat} {e : HostEvent} {ts : List Turn} (hw : e.wf s.cfg = true)
    (hpoll : e ≠ .poll) (hreset : e ≠ .reset) (h : storeAhead p ts s = true) :
    storeAhead p (.host e :: ts) s = true := by
  cases e with
  | write | read =>
    have hw : offsetWf _ = true := hw
    simp [storeAhead, hw, h]
  | storeBegin | store =>
    have hw := of_decide_eq_true hw
    simp [storeAhead, hw, h]
  | poll => exact absurd rfl hpoll
  | reset => exact absurd rfl hreset
  | irregular | duringReset => cases hw

/-- Nothing after a POLL falls inside the command (30_encoding.md R90). -/
theorem storeAhead_core_poll (p : Nat) (ts : List Turn) (s : State) :
    storeAhead p (.core :: .host .poll :: ts) s = false := by simp [storeAhead]

end

/-! ### A run that stays busy -/

section
variable {s t : State} {p : Nat}

/-- While a command is in progress a core turn does to its control what the look ahead takes it to do. -/
theorem core_turn_sameControl (hs : Inv s) (hn : nextTurn s = .core) (hb : s.busy = true)
    (hbt : t.busy = true) (h : step s = .next t) :
    SameControl t (controlStep s) ∧ t.phase ≠ .idle ∧ t.schedule = s.schedule.tail := by
  have hp := hs.busy_iff.1 hb
  have hpt := (stepKeepsTheInvariant s t hs h).busy_iff.1 hbt
  obtain ⟨i, hi⟩ : ∃ i, microOf s.phase = some i := by
    cases hq : s.phase with
    | idle => exact absurd hq hp
    | _ => exact ⟨_, rfl⟩
  rw [step_of_fetch ((fetch_core s hn).trans hi)] at h
  obtain ⟨hc, hsched⟩ := exec_sameControl (s := advance s) hi h hpt
  have ha : SameControl (advance s) s := ⟨rfl, rfl, rfl, rfl, rfl, rfl⟩
  exact ⟨hc.trans ha.controlStep, hpt, hsched⟩

/-- While a command is in progress a host's turn leaves its control as it was, and comes off the schedule or,
if it is a POLL, comes round again. -/
theorem host_turn_sameControl {e : HostEvent} (hn : nextTurn s = .host e) (hb : s.busy = true)
    (hbt : t.busy = true) (h : step s = .next t) : SameControl s t ∧
      (t.schedule = s.schedule.tail ∨ t.schedule = .core :: .host .poll :: s.schedule.tail) := by
  have hidle : s.busy ≠ false := by simp [hb]
  have hc : SameControl s s := ⟨rfl, rfl, rfl, rfl, rfl, rfl⟩
  cases step_stepEffect h with
  | pass | dropped | read | storeBegun | stored => exact ⟨{ hc with }, .inl rfl⟩
  | pollAgain => exact ⟨{ hc with }, .inr rfl⟩
  | illegal _ hi | accepted _ _ _ hi | cleared _ hi | written _ _ hi => exact absurd hi hidle
  | reset => cases hbt
  | micro i t hf hi =>
    obtain ⟨-, w, -, -, hd⟩ := fetch_host s e i hn hf
    have hcommand := decodeCommand_isCommand hd
    rw [microOf_isCommand hi] at hcommand
    cases hcommand

/-- While busy a POLL comes round again after a core turn. -/
theorem poll_turn_schedule (hn : nextTurn s = .host .poll) (hb : s.busy = true)
    (h : step s = .next t) : t.schedule = .core :: .host .poll :: s.schedule.tail := by
  rw [step_of_host hn nofun] at h
  cases h
  have h0 : (statusWord (advance s)).getLsbD 0 = true := by
    rw [(statusReadsItsFields _).1, advance_busy, hb]
  simp [pollEvent, h0]

theorem reset_turn_busy (hn : nextTurn s = .host .reset) (h : step s = .next t) : t.busy = false := by
  rw [step_of_host hn nofun] at h
  cases h
  rfl

/-- A store in sight after a turn that leaves the command in progress was in sight before it. -/
theorem storeAhead_of_step (hs : Inv s) (hb : s.busy = true) (hbt : t.busy = true)
    (h : step s = .next t) (ht : storeAhead p t.schedule t = true) :
    storeAhead p s.schedule s = true := by
  cases hsched : s.schedule with
  | nil =>
    obtain ⟨-, -, htail⟩ := core_turn_sameControl hs (by simp [nextTurn, hsched]) hb hbt h
    rw [htail, hsched] at ht
    cases ht
  | cons x ts =>
    cases x with
    | core =>
      obtain ⟨hc, hp, htail⟩ := core_turn_sameControl hs (by simp [nextTurn, hsched]) hb hbt h
      rw [htail, hsched, storeAhead_congr hc] at ht
      rw [hc.phase] at hp
      simpa [storeAhead, hp] using ht
    | host e =>
      have hn : nextTurn s = .host e := by simp [nextTurn, hsched]
      obtain ⟨hc, htail | hround⟩ := host_turn_sameControl hn hb hbt h
      · have hpoll : e ≠ .poll := by
          rintro rfl
          rw [poll_turn_schedule hn hb h, storeAhead_core_poll] at ht
          cases ht
        have hreset : e ≠ .reset := by
          rintro rfl
          rw [reset_turn_busy hn h] at hbt
          cases hbt
        rw [htail, hsched, ← storeAhead_congr hc] at ht
        exact storeAhead_cons_host (hostEvent_wf_of_step hn h) hpoll hreset ht
      · rw [hround, storeAhead_core_poll] at ht
        cases ht

theorem step_of_run_one (h : Sys2Proof.core.run 1 s = .next t) : step s = .next t := by
  have hc : Sys2Proof.core.step s = step s := rfl
  simp only [Host.Core.run, hc] at h
  split at h
  · next u hu => exact hu.trans h
  all_goals cases h

/-- A store in sight at a state that a run reaches while busy is in sight from its start. -/
theorem storeAhead_of_run {u : State} {n : Nat} (hs : Inv s)
    (hbusy : ∀ m, m ≤ n → ∃ w, Sys2Proof.core.run m s = .next w ∧ w.busy = true)
    (hu : Sys2Proof.core.run n s = .next u) (h : storeAhead p u.schedule u = true) :
    storeAhead p s.schedule s = true := by
  induction n generalizing s with
  | zero => cases hu; exact h
  | succ n ih =>
    obtain ⟨_, h0, hb⟩ := hbusy 0 (Nat.zero_le _)
    cases h0
    obtain ⟨t, h1, hbt⟩ := hbusy 1 (by omega)
    have hstep : step s = .next t := step_of_run_one h1
    have hbusy' : ∀ m, m ≤ n → ∃ w, Sys2Proof.core.run m t = .next w ∧ w.busy = true := by
      intro m hm
      rw [← run_succ hstep]
      exact hbusy (m + 1) (by omega)
    rw [run_succ hstep] at hu
    exact storeAhead_of_step hs hb hbt hstep (ih (stepKeepsTheInvariant s t hs hstep) hbusy' hu)

end

/-! ### Free reads -/

/-- An unstable byte reads as a free value (93_implementation_defined.md I2, I3). -/
theorem inputByte_of_unstable {s : State} {p : Nat} (site : Nat) (h : unstable s p = true) :
    inputByte s site p = Config.freeByte s.draws site := if_pos h

/-- All that makes a byte unstable. -/
theorem unstable_iff (s : State) (p : Nat) : unstable s p = true ↔
    p ∈ s.racing ∨ p ∈ s.inFlight ∨ (∃ r ∈ s.cfg.volatile, r.base ≤ p ∧ p < r.base + r.size) ∨
      storeAhead p (.core :: s.schedule) s = true := by
  simp [unstable, rangeHas, or_assoc]

/-- At a core turn what is in sight from the whole schedule is in sight of the reading step. -/
theorem unstable_advance {s : State} {p : Nat} (hn : nextTurn s = .core)
    (h : storeAhead p s.schedule s = true) : unstable (advance s) p = true := by
  have ha : SameControl s (advance s) := ⟨rfl, rfl, rfl, rfl, rfl, rfl⟩
  refine (unstable_iff _ _).2 (.inr (.inr (.inr ?_)))
  rw [← storeAhead_congr ha]
  cases hs : s.schedule with
  | nil => rw [hs] at h; cases h
  | cons x ts =>
    obtain rfl : x = .core := by simpa [nextTurn, hs] using hn
    simpa [hs] using h

/-- Settles O29: the frames of the two store events, the fault, the free reads, and a store at the end of a
busy run, which the look ahead has in sight from the start of the run. -/
theorem hostStoresDuringACommandRace : Obligations.HostStoresDuringACommandRace := by
  refine ⟨fun s p v hm hp hs => ?_, fun s p hp hs => step_storeBegin hs hp,
    fun s p v hp hs => step_store_outside hp hs,
    fun s site p h => inputByte_of_unstable site ((unstable_iff s p).2 h),
    fun s u n site p hs hcore hbusy hu hp hnext => ?_⟩
  · refine ⟨_, step_store hs hp, fun q => storedBytesReadBack s.mem p q v hm, fun hb => ?_,
      fun hb => by simp [hb], rfl⟩
    simp only [storeCompletes_racing, advance_busy, hb, if_true, advance_racing]
    exact ⟨List.mem_insert_self, fun q hq => List.mem_insert_of_mem hq⟩
  · obtain ⟨x, ts, hsched, hx⟩ : ∃ x ts, u.schedule = x :: ts ∧ storesTo p x = true := by
      rcases hnext with ⟨v, hv⟩ | hv <;> obtain ⟨ts, hts⟩ := List.head?_eq_some_iff.1 hv <;>
        exact ⟨_, ts, hts, by simp [storesTo]⟩
    have hahead := storeAhead_of_run hs hbusy hu (storeAhead_of_storesTo hsched hx hp)
    exact inputByte_of_unstable site (unstable_advance ((nextTurn_core_iff s).2 hcore) hahead)

end Sys2Proof.Machine
end

section
/-! ## The codes of the instructions -/

namespace Sys2Proof

/-! ### The fields of a command word -/

/-- A word with RSV = 0 is made up of its other three fields (30_encoding.md R82). -/
theorem commandWord_fields {w : Word} (h : rsvField w = 0) :
    commandWord (opField w) (dsField w) (dkField w) = w := by
  have high (k : Nat) (hk : k < 64) (h6 : 6 ≤ k) : w.getLsbD k = false := by
    have hbit : (rsvField w).getLsbD (k - 6) = false := by simp [h]
    simpa [rsvField, BitVec.getLsbD_extractLsb', Nat.add_sub_cancel' h6, show k - 6 < 58 by omega]
      using hbit
  apply BitVec.eq_of_getLsbD_eq
  intro k hk
  simp only [commandWord, opField, dsField, dkField, BitVec.getLsbD_or, BitVec.getLsbD_shiftLeft,
    BitVec.getLsbD_setWidth, BitVec.getLsbD_ofBool, BitVec.getLsbD_extractLsb']
  grind

/-- A word with RSV = 0 is the command word of its OP, written as a number, and of its DS and DK. -/
theorem commandWord_of_op {w : Word} {op : BitVec 4} (hr : rsvField w = 0)
    (ho : (opField w).toNat = op.toNat) : commandWord op (dsField w) (dkField w) = w :=
  BitVec.eq_of_toNat_eq ho ▸ commandWord_fields hr

/-! ### Decoding and encoding -/

theorem encode_of_decodeCommand {w : Word} {i : Instr} (h : decodeCommand w = .ok i) :
    encode i = .command w := by
  unfold decodeCommand at h
  split at h
  case isFalse => cases h
  case isTrue hr =>
    split at h
    case h_1 ho | h_2 ho | h_3 ho =>
      cases h
      exact congrArg Code.command (commandWord_of_op hr ho)
    case h_4 ho =>
      split at h
      case isTrue => cases h
      case isFalse hz =>
        cases h
        simp only [Bool.or_eq_true, not_or, Bool.not_eq_true] at hz
        obtain ⟨hds, hdk⟩ := hz
        have hw := commandWord_of_op (op := 4) hr ho
        rw [hds, hdk] at hw
        exact congrArg Code.command hw
    case h_5 => cases h

theorem encode_of_decodePhase {c : BitVec 4} {i : Instr} (h : decodePhase c = .ok i) :
    encode i = .phase c := by
  unfold decodePhase at h
  split at h <;> cases h <;> next hc => exact congrArg Code.phase (BitVec.eq_of_toNat_eq hc.symm)

theorem decode_encode (i : Instr) : decode (encode i) = .ok i := by
  cases i with
  | digest ds dk | fixed64 ds dk | fixed32 ds dk => cases ds <;> cases dk <;> rfl
  | _ => rfl

/-- Settles O1: a code that decodes is put together again from its fields, and a code made by the encoder
decodes to what it was made of. -/
theorem decodeIsInverseOfEncode : Obligations.DecodeIsInverseOfEncode := by
  intro c i
  constructor
  · intro h
    cases c with
    | command w => exact encode_of_decodeCommand h
    | phase p => exact encode_of_decodePhase h
  · rintro rfl
    exact decode_encode i

/-- Settles O2: by O1 the words that decode are the encodings of the commands, which the list has. -/
theorem legalCommandWordsAreTheThirteen : Obligations.LegalCommandWordsAreTheThirteen := by
  intro w i
  refine (decodeIsInverseOfEncode (.command w) i).trans ⟨fun h => ?_, fun h => ?_⟩
  · cases i with
    | digest ds dk | fixed64 ds dk | fixed32 ds dk => cases h; cases ds <;> cases dk <;> decide
    | clrstat => cases h; decide
    | _ => cases h
  · simp only [List.mem_cons, List.not_mem_nil, or_false, Prod.mk.injEq] at h
    rcases h with h | h | h | h | h | h | h | h | h | h | h | h | h <;>
      obtain ⟨rfl, rfl⟩ := h <;> rfl

/-- Settles O3: each code is evaluated. -/
theorem sampleCodesDecode : Obligations.SampleCodesDecode :=
  ⟨rfl, rfl, rfl, rfl, rfl, rfl, rfl, rfl, rfl, rfl, rfl, rfl⟩

end Sys2Proof
end

section
/-! ## The order of the phases and the host's accesses -/

namespace Sys2Proof.Machine

/-! ### The table of successors -/

/-- The successors that 30_encoding.md R86 lists for each phase but IDLE. -/
def successorTable : List (Phase × Phase) :=
  [(.seed, .dispatch), (.seed, .fix8), (.seed, .fix4), (.dispatch, .empty), (.dispatch, .tiny),
    (.dispatch, .short), (.dispatch, .tail1), (.dispatch, .block), (.empty, .final), (.tiny, .final),
    (.short, .final), (.block, .block), (.block, .fold), (.fold, .tail1), (.fold, .last),
    (.tail1, .tail2), (.tail1, .last), (.tail2, .last), (.last, .final), (.final, .out), (.out, .idle),
    (.fix8, .final), (.fix4, .final)]

/-- The phases whose micro-operation reads the input (20_memory.md R65). -/
def readingPhases : List Phase := [.tiny, .short, .block, .tail1, .tail2, .last]

theorem successor_mem_table {s : State} (h : s.phase ≠ .idle) :
    (s.phase, successor s) ∈ successorTable := by
  cases hp : s.phase <;> simp only [successor, hp]
  case idle => exact absurd hp h
  case seed => cases s.kind <;> decide
  case dispatch => unfold afterDispatch; split_ifs <;> decide
  case block => unfold afterBlock; split_ifs <;> decide
  case fold => unfold afterFold; split_ifs <;> decide
  case tail1 => unfold afterTail1; split_ifs <;> decide
  all_goals decide

/-- Only a phase that reads the input has a refused byte (20_memory.md R68). -/
theorem LowestRefused.reading_phase {s : State} {i : Instr} {p : Nat} (hi : microOf s.phase = some i)
    (h : LowestRefused s (readSet i s) p) :
    s.phase ∈ readingPhases := by
  obtain ⟨⟨j, hj, -⟩, -⟩ := h
  cases hp : s.phase <;> rw [hp] at hi <;> cases hi
  case tiny | short | block | tail1 | tail2 | last => decide
  all_goals cases hj

theorem exists_microOf {p : Phase} (h : p ≠ .idle) : ∃ i, microOf p = some i := by
  cases p with
  | idle => exact absurd rfl h
  | _ => exact ⟨_, rfl⟩

/-- A micro-operation goes on to a successor of its phase, or aborts from a phase that reads the input. -/
theorem exec_phase {s t : State} {i : Instr} (hi : microOf s.phase = some i)
    (h : exec i s = .next t) : (s.phase, t.phase) ∈ successorTable ∨
      (s.phase ∈ readingPhases ∧ t.phase = .idle ∧ t.buserr = true) := by
  cases exec_microEffect (microOf_isCommand hi) h with
  | abort p hp => exact .inr ⟨hp.reading_phase hi, by simp, by simp⟩
  | complete hout d =>
    rw [(microOf_out_iff hi).2.1 hout]
    exact .inl (by simp [successorTable])
  | work hout hr x =>
    obtain ⟨hp, -⟩ := exec_successor hi hr h
    rw [hp]
    exact .inl (successor_mem_table (microOf_out_iff hi).1)

/-- A host event that issues no instruction leaves the phase as it is, reset aside. -/
theorem hostEvent_phase {s t : State} {e : HostEvent} (h : hostEvent e s = .next t) :
    t.phase = s.phase ∨ (e = .reset ∧ t.phase = .idle) := by
  cases e with
  | reset =>
    cases h
    exact .inr ⟨rfl, rfl⟩
  | write off v =>
    obtain ⟨-, rfl⟩ := atOffset_next _ _ _ _ h
    left
    split
    · rcases illegalWord_cases v s with ⟨-, hw⟩ | ⟨-, hw⟩ <;> simp [hw]
    · rcases writeWindow_cases off v s with hw | ⟨-, hw⟩ | ⟨r, -, -, hw⟩ <;> simp [hw]
  | read off =>
    obtain ⟨-, rfl⟩ := atOffset_next _ _ _ _ h
    exact .inl rfl
  | poll =>
    cases h
    rcases pollEvent_cases s with hp | hp <;> rw [hp] <;> exact .inl rfl
  | storeBegin p | store p v =>
    obtain ⟨-, rfl⟩ := inAddressSpace_next _ _ _ _ h
    exact .inl rfl
  | irregular | duringReset => cases h

/-- Settles O53: a core turn runs the micro-operation of the phase, and of the host's turns only an accepted
command and reset touch the phase; by the invariant a command is accepted at IDLE only. -/
theorem phasesFollowTheSuccessorTable : Obligations.PhasesFollowTheSuccessorTable := by
  intro s t hs h
  refine ⟨fun hcore hp => ?_, fun e he => ?_⟩
  · obtain ⟨i, hi⟩ := exists_microOf hp
    rw [step_of_fetch ((fetch_core s ((nextTurn_core_iff s).2 hcore)).trans hi)] at h
    exact exec_phase (s := advance s) hi h
  · have hn := (nextTurn_host_iff s e).2 he
    rcases step_next_cases s t h with ⟨i, hf, hx⟩ | ⟨-, hc, -⟩ | ⟨e', -, he', hx⟩
    · obtain ⟨off, w, rfl, hr, hd⟩ := fetch_host s e i hn hf
      obtain rfl : off = 0x00 := BitVec.eq_of_toNat_eq (regAt_cmd hr)
      cases exec_commandEffect (decodeCommand_isCommand hd) hx with
      | dropped | cleared => exact .inl rfl
      | accepted hb k ds dk =>
        have hidle : s.phase = .idle := by
          by_contra hp
          simp [hs.busy_iff.2 hp] at hb
        exact .inr (.inl ⟨hidle, rfl, w, rfl⟩)
    · cases hn.symm.trans hc
    · obtain rfl : e = e' := by simpa [hn] using he'
      exact (hostEvent_phase hx).imp_right .inr

/-! ### Accesses that are refused -/

theorem atOffset_misaligned {off : Offset} (h : off.toNat % 8 ≠ 0) (f : State → State) (s : State) :
    atOffset off f s = .refused (.unspecifiedAccess off) := by
  simp [atOffset, offsetWf, h]

/-- A write that does not reach CMD is the host event alone. -/
theorem step_of_write {s : State} {off : Offset} {w : Word} (hn : nextTurn s = .host (.write off w))
    (hr : regAt off ≠ some .cmd) : step s = hostEvent (.write off w) (advance s) := by
  simp [step, fetch, fetchCode, hn, hr, otherTurn]

/-- Settles O16: CMD is at a multiple of 8, so a misaligned write issues no instruction either. -/
theorem unspecifiedAccessesAreRefused : Obligations.UnspecifiedAccessesAreRefused := by
  intro s off
  refine ⟨fun v hoff hs => ?_, fun hoff hs => ?_, fun n hs => ?_, fun hs => ?_⟩
  · have hr : regAt off ≠ some .cmd := fun hr => hoff (by rw [regAt_cmd hr])
    exact (step_of_write ((nextTurn_host_iff s _).2 hs) hr).trans (atOffset_misaligned hoff _ _)
  · exact (step_of_host ((nextTurn_host_iff s _).2 hs) nofun).trans (atOffset_misaligned hoff _ _)
  · exact step_of_host ((nextTurn_host_iff s _).2 hs) nofun
  · exact step_of_host ((nextTurn_host_iff s _).2 hs) nofun

/-! ### POLL and the pseudo-instructions -/

/-- A POLL round notes STATUS and goes by BUSY, which is bit 0 of STATUS. -/
theorem pollEvent_eq (s : State) : pollEvent s = { s with
    reads := (0x08, statusWord s) :: s.reads
    schedule := if s.busy then .core :: .host .poll :: s.schedule else s.schedule } := by
  have h0 : (statusWord s).getLsbD 0 = s.busy := (statusReadsItsFields s).1
  unfold pollEvent
  rw [h0]
  dsimp only
  split_ifs <;> rfl

/-- Settles O17: the round is the event POLL on the state past the turn. -/
theorem pollComesRoundWhileBusy : Obligations.PollComesRoundWhileBusy := by
  intro s rest hs
  have hn : nextTurn s = .host .poll := by simp [nextTurn, hs]
  have ha : advance s = { s with schedule := rest } := by simp [advance, hs]
  rw [step_of_host hn nofun, ha]
  exact congrArg Host.Outcome.next (pollEvent_eq _)

/-- Settles O18: the lines are expanded and the command words evaluated. -/
theorem pseudoInstructionsExpand : Obligations.PseudoInstructionsExpand :=
  ⟨fun _ _ => rfl, fun _ _ _ => rfl, fun _ => rfl, fun _ => rfl⟩

end Sys2Proof.Machine
end

section
/-! ## The multiply-fold mixer -/

namespace Sys2Proof.Machine

/-! ### MUL128 -/

/-- The product of two words fits in 128 bits, with room left below the top (41_mixer.md R100). -/
theorem toNat_mul_toNat_le (x y : Word) : x.toNat * y.toNat ≤ (2 ^ 64 - 1) * (2 ^ 64 - 1) :=
  Nat.mul_le_mul (Nat.le_pred_of_lt x.isLt) (Nat.le_pred_of_lt y.isLt)

theorem mul128_fst_toNat (x y : Word) : (mul128 x y).1.toNat = x.toNat * y.toNat % 2 ^ 64 := by
  simp [mul128]

theorem mul128_snd_toNat (x y : Word) : (mul128 x y).2.toNat = x.toNat * y.toNat / 2 ^ 64 := by
  have hp := toNat_mul_toNat_le x y
  rw [mul128, BitVec.toNat_ofNat, Nat.shiftRight_eq_div_pow]
  omega

/-- The two halves put together again are the exact product: nothing is truncated. -/
theorem mul128_exact (x y : Word) :
    (mul128 x y).1.toNat + 2 ^ 64 * (mul128 x y).2.toNat = x.toNat * y.toNat := by
  rw [mul128_fst_toNat, mul128_snd_toNat, Nat.mod_add_div]

/-- A pair of words that makes up the product is the value of MUL128. -/
theorem mul128_unique {x y : Word} {p : Word × Word}
    (h : p.1.toNat + 2 ^ 64 * p.2.toNat = x.toNat * y.toNat) : mul128 x y = p := by
  have hm := mul128_exact x y
  have hp := p.1.isLt
  have hlo := (mul128 x y).1.isLt
  apply Prod.ext <;> apply BitVec.eq_of_toNat_eq <;> omega

theorem mul128_snd_le (x y : Word) : (mul128 x y).2.toNat ≤ 2 ^ 64 - 2 := by
  have hp := toNat_mul_toNat_le x y
  rw [mul128_snd_toNat]
  omega

theorem mul128_comm (x y : Word) : mul128 x y = mul128 y x :=
  mul128_unique ((mul128_exact y x).trans (Nat.mul_comm _ _))

@[simp] theorem mul128_zero (y : Word) : mul128 0#64 y = (0#64, 0#64) := mul128_unique (by simp)

@[simp] theorem mul128_one (y : Word) : mul128 1#64 y = (y, 0#64) := mul128_unique (by simp)

/-- Settles O21: the halves are the remainder and the quotient of the product by `2^64`; the fixed operands
are evaluated. -/
theorem mul128IsExact : Obligations.Mul128IsExact :=
  ⟨fun x y => ⟨mul128_exact x y, mul128_snd_le x y, mul128_comm x y⟩,
    fun y => ⟨mul128_zero y, mul128_one y⟩, rfl, rfl, rfl⟩

/-! ### The multiplier from 32-bit halves -/

/-- Joining a 32-bit low half and a shifted high half by OR, modulo `2^64`, adds them. -/
theorem toNat_ofNat_or_shiftLeft {a m : Nat} (ha : a < 2 ^ 32) :
    (BitVec.ofNat 64 a ||| BitVec.ofNat 64 (m <<< 32)).toNat = a + 2 ^ 32 * (m % 2 ^ 32) := by
  have hm : m <<< 32 % 2 ^ 64 = 2 ^ 32 * (m % 2 ^ 32) := by
    rw [Nat.shiftLeft_eq]
    omega
  rw [BitVec.toNat_or, BitVec.toNat_ofNat, BitVec.toNat_ofNat, hm, Nat.mod_eq_of_lt (by omega),
    Nat.or_comm, ← Nat.two_pow_add_eq_or_of_lt ha, Nat.add_comm]

/-- The four partial products weigh 1, `2^32`, `2^32` and `2^64` (41_mixer.md R101). -/
theorem mul_eq_partial_products (x y : Nat) :
    x * y = x % 2 ^ 32 * (y % 2 ^ 32) +
      2 ^ 32 * (x % 2 ^ 32 * (y >>> 32) + x >>> 32 * (y % 2 ^ 32)) +
      2 ^ 64 * (x >>> 32 * (y >>> 32)) := by
  rw [Nat.shiftRight_eq_div_pow, Nat.shiftRight_eq_div_pow]
  conv_lhs => rw [← Nat.mod_add_div x (2 ^ 32), ← Nat.mod_add_div y (2 ^ 32)]
  ring

/-- The columns of R101 with their carries make up the weighted sum of the partial products. The premise
is what keeps the high word from wrapping. -/
theorem carry_columns {ll lh hl hh : Nat} (hp : ll + 2 ^ 32 * (lh + hl) + 2 ^ 64 * hh < 2 ^ 128) :
    let mid := (ll >>> 32) + lh % 2 ^ 32 + hl % 2 ^ 32
    (BitVec.ofNat 64 (ll % 2 ^ 32) ||| BitVec.ofNat 64 (mid <<< 32)).toNat +
        2 ^ 64 * (BitVec.ofNat 64 (hh + (lh >>> 32) + (hl >>> 32) + (mid >>> 32))).toNat =
      ll + 2 ^ 32 * (lh + hl) + 2 ^ 64 * hh := by
  intro mid
  rw [toNat_ofNat_or_shiftLeft (Nat.mod_lt _ (by decide)), BitVec.toNat_ofNat]
  omega

theorem mul128Schoolbook_exact (x y : Word) :
    (mul128Schoolbook x y).1.toNat + 2 ^ 64 * (mul128Schoolbook x y).2.toNat =
      x.toNat * y.toNat := by
  have hp : x.toNat * y.toNat < 2 ^ 128 := (toNat_mul_toNat_le x y).trans_lt (by decide)
  rw [mul_eq_partial_products x.toNat] at hp ⊢
  exact carry_columns hp

/-- Settles O22: the schoolbook halves make up the product, and only the halves of MUL128 do. -/
theorem schoolbookMultiplierConforms : Obligations.SchoolbookMultiplierConforms :=
  fun x y => (mul128_unique (mul128Schoolbook_exact x y)).symm

/-! ### MIX -/

theorem mix_overwrite (x y : Word) :
    mix .overwrite x y = (mul128 x y).1 ^^^ (mul128 x y).2 := rfl

theorem mix_accumulate (x y : Word) :
    mix .accumulate x y = x ^^^ y ^^^ (mul128 x y).1 ^^^ (mul128 x y).2 := by
  rw [mix]
  ac_rfl

theorem mix_comm (m : MixMode) (x y : Word) : mix m x y = mix m y x := by
  cases m with
  | overwrite => rw [mix_overwrite, mix_overwrite, mul128_comm]
  | accumulate => rw [mix_accumulate, mix_accumulate, mul128_comm, BitVec.xor_comm x y]

/-- Settles O23: the rows with a free operand follow from MUL128 by 0 and by 1; the others are evaluated. -/
theorem mixFoldsTheProduct : Obligations.MixFoldsTheProduct := by
  refine ⟨fun x y => ⟨mix_overwrite x y, mix_accumulate x y⟩, mix_comm, fun y => ?_, fun m => ?_, rfl, rfl⟩
  · simp [mix_overwrite, mix_accumulate]
  · cases m <;> exact ⟨rfl, rfl, rfl⟩

end Sys2Proof.Machine
end

section
/-! ## Seed derivation, dispatch and the short branches -/

namespace Sys2Proof.Machine

/-! ### SEED -/

/-- Settles O30: the successor table by KIND is the one of the statement. -/
theorem seedDerivesTheWorkingSeed : Obligations.SeedDerivesTheWorkingSeed := by
  intro s
  cases hk : s.kind <;> simp only [exec, execSeed, hk, afterSeed]

/-- SEED leaves the derived seed of `rapidhash` in SEEDW. -/
theorem exec_seed_seedw {s t : State} (h : exec .seed s = .next t) :
    t.seedw = derivedSeed s.cfg s.lw (secretW s) s.seedw := by
  cases h
  rfl

/-- The length enters the derived seed by one xor, after all else. -/
theorem derivedSeed_eq_xor_length (c : Config) (L : Word) (sec : Fin 3 → Word) (seed : Word) :
    derivedSeed c L sec seed = derivedSeed c 0 sec seed ^^^ L := by
  simp [derivedSeed]

/-- Of configuration and secret, the derived seed sees the mode and the first two words. -/
theorem derivedSeed_congr {c d : Config} {sec sec' : Fin 3 → Word} (L seed : Word)
    (hm : c.mixMode = d.mixMode) (h0 : sec 0 = sec' 0) (h1 : sec 1 = sec' 1) :
    derivedSeed c L sec seed = derivedSeed d L sec' seed := by
  simp only [derivedSeed, hm, h0, h1]

/-- The derived seed of the default seed and secret for length 0 (42_seed_dispatch.md R121). -/
theorem derivedSeed_default :
    derivedSeed Config.default 0 defaultSecret defaultSeed = 0x763305bbe7bea536 := rfl

/-- Two lengths give derived seeds that differ in the xor of the lengths: the word before it cancels. -/
theorem derivedSeed_xor_derivedSeed (c : Config) (L M : Word) (sec : Fin 3 → Word) (seed : Word) :
    derivedSeed c L sec seed ^^^ derivedSeed c M sec seed = L ^^^ M := by
  rw [derivedSeed_eq_xor_length c L, derivedSeed_eq_xor_length c M]
  generalize derivedSeed c 0 sec seed = k
  calc k ^^^ L ^^^ (k ^^^ M) = k ^^^ k ^^^ (L ^^^ M) := by ac_rfl
    _ = L ^^^ M := by rw [BitVec.xor_self, BitVec.zero_xor]

/-- Settles O31: all the derived seed sees but the length is the same in both states, and in the state of
the defaults it is that of the default build. -/
theorem derivedSeedDependsOnLengthByXor : Obligations.DerivedSeedDependsOnLengthByXor := by
  refine ⟨fun s t s' t' hseed h0 h1 hm hs ht => ?lengths, fun s s' hseed h0 h1 hm hs => ?defaults⟩
  case lengths =>
    rw [exec_seed_seedw hs, exec_seed_seedw ht, hseed,
      derivedSeed_congr (sec' := secretW t) s.lw _ hm h0 h1, derivedSeed_xor_derivedSeed]
  case defaults =>
    rw [exec_seed_seedw hs, hseed, derivedSeed_eq_xor_length,
      derivedSeed_congr (d := Config.default) (sec' := defaultSecret) 0 _ hm h0 h1]
    exact congrArg (· ^^^ s.lw) derivedSeed_default

/-! ### DISPATCH and EMPTY -/

/-- Settles O32: each range of L passes the tests of DISPATCH up to its own. -/
theorem dispatchSelectsTheBranch : Obligations.DispatchSelectsTheBranch := by
  intro s
  simp only [exec, execDispatch]
  refine ⟨fun h0 => ?empty, fun h1 h3 => ?tiny, fun h4 h16 => ?short, fun h17 h48 => ?tail,
    fun h49 => ?block⟩
  case empty => rw [if_pos h0]
  case tiny => rw [if_neg (by omega), if_pos h3]
  case short => rw [if_neg (by omega), if_neg (by omega), if_pos h16]
  case tail => rw [if_neg (by omega), if_neg (by omega), if_neg (by omega), if_pos h48]
  case block => rw [if_neg (by omega), if_neg (by omega), if_neg (by omega), if_neg (by omega)]

/-- Settles O33: EMPTY has one outcome, in every state. -/
theorem emptyClearsTheOperands : Obligations.EmptyClearsTheOperands := fun _ => rfl

/-! ### TINY and SHORT -/

/-- Settles O34: a reading step whose bytes are admitted gives its result. -/
theorem tinyPacksThreeBytes : Obligations.TinyPacksThreeBytes :=
  fun s hr => readStep_readable (tinyReads s.lw.toNat) _ s hr

/-- Settles O35: a reading step whose bytes are admitted gives its result. -/
theorem shortReadsOverlappingWindows : Obligations.ShortReadsOverlappingWindows :=
  fun s hr => readStep_readable (shortReads s.lw.toNat) _ s hr

/-- The overlap offset in SHORT's range of lengths; the 8 of the source's prose does not occur
(42_seed_dispatch.md R128). -/
theorem delta_eq : ∀ L ≤ 16, 4 ≤ L → delta L = if L ≤ 7 then 0 else 4 := by decide

/-- The read set of SHORT as four intervals. -/
theorem mem_shortReads {L j : Nat} : j ∈ shortReads L ↔
    j < 4 ∨ (L - 4 ≤ j ∧ j < L - 4 + 4) ∨ (delta L ≤ j ∧ j < delta L + 4) ∨
      (L - 4 - delta L ≤ j ∧ j < L - 4 - delta L + 4) := by
  simp only [shortReads, List.mem_append, mem_window]
  omega

/-- Settles O36: with `delta` known on both sides of 8, the four intervals leave no gap below L. -/
theorem shortWindowsCoverTheInput : Obligations.ShortWindowsCoverTheInput := by
  intro L h4 h16
  have hd := delta_eq L h16 h4
  have hfit := delta_add_four_le L h16 h4
  refine ⟨hd, hfit, by omega, fun j => ⟨lt_of_mem_shortReads h4 h16, fun hj => ?covered⟩⟩
  case covered =>
    rw [mem_shortReads, hd]
    split_ifs with h7 <;> omega

end Sys2Proof.Machine
end

section
/-! ## The block loop, the tail and the last sixteen bytes -/

namespace Sys2Proof.Machine

/-! ### The successor of a micro-operation -/

/-- A reading step whose bytes are admitted goes to the phase of its result. -/
theorem readStep_phase {offs : List Nat} {r s t : State} (hr : Readable s offs)
    (h : readStep offs r s = .next t) : t.phase = r.phase := by
  rw [readStep_readable offs r s hr] at h
  cases h
  rfl

/-- Every micro-operation is named by a phase: its code is no command word, so it is a phase code. -/
theorem exists_phase_of_micro {i : Instr} (hm : i.isCommand = false) : ∃ p, microOf p = some i := by
  have hd := decode_encode i
  cases hc : encode i with
  | command w =>
    rw [hc] at hd
    rw [decodeCommand_isCommand hd] at hm
    cases hm
  | phase c =>
    rw [hc] at hd
    obtain ⟨p, -, rfl, -⟩ := decodePhase_phase hd
    exact ⟨p, microOf_of_decode hd⟩

/-- Where no byte is refused, a micro-operation goes to the successor of the phase that names it, whatever
phase the state itself is in: no micro-operation checks the phase (log entry 10). -/
theorem exec_phase_of_readable {i : Instr} {p : Phase} {s t : State} (hp : microOf p = some i)
    (hr : Readable s (readSet i s)) (h : exec i s = .next t) :
    t.phase = successor { s with phase := p } := by
  cases p <;> cases hp
  case tiny | short | block | tail1 | tail2 | last => exact readStep_phase hr h
  case dispatch =>
    simp only [exec, execDispatch] at h
    simp only [successor, afterDispatch]
    split_ifs at h ⊢ <;> cases h <;> rfl
  all_goals
    cases h
    rfl

/-- Settles O52: both states go to the successor of the phase that names the micro-operation, and the
successor reads KIND, LW, I and the configuration only. -/
theorem successorIgnoresTheData : Obligations.SuccessorIgnoresTheData := by
  intro i s t s' t' hm hcfg hkind hlw hi hrs hrt hs ht
  obtain ⟨p, hp⟩ := exists_phase_of_micro hm
  calc s'.phase = successor { s with phase := p } := exec_phase_of_readable hp hrs hs
    _ = successor { t with phase := p } := by simp only [successor, hcfg, hkind, hlw, hi]
    _ = t'.phase := (exec_phase_of_readable hp hrt ht).symm

/-! ### BLOCK and FOLD -/

/-- The successor of BLOCK, with CONTINUE written out for both configurations (43_block_loop.md R141). -/
theorem afterBlock_eq (c : Config) (i : Word) : afterBlock c i =
    if c.blockLoopInclusive then (if 48 ≤ i.toNat then .block else .fold)
    else (if 48 < i.toNat then .block else .fold) := by
  unfold afterBlock continues
  cases c.blockLoopInclusive <;> simp

/-- Settles O37: a reading step whose bytes are admitted gives its result, and CONTINUE picks its phase. -/
theorem blockFoldsFortyEightBytes : Obligations.BlockFoldsFortyEightBytes := by
  intro s hr
  rw [← afterBlock_eq s.cfg (s.i - 48)]
  exact readStep_readable (window (pos s) 48) _ s hr

/-- Settles O38: FOLD reads nothing, so it has one outcome, in every state. -/
theorem foldCombinesTheAccumulators : Obligations.FoldCombinesTheAccumulators := fun _ => rfl

/-! ### TAIL1, TAIL2 and LAST -/

/-- Settles O39: a reading step whose bytes are admitted gives its result. -/
theorem tailOneMixesSixteenBytes : Obligations.TailOneMixesSixteenBytes :=
  fun s hr => readStep_readable (window (pos s) 16) _ s hr

/-- Settles O40: a reading step whose bytes are admitted gives its result. -/
theorem tailTwoMixesSixteenBytes : Obligations.TailTwoMixesSixteenBytes :=
  fun s hr => readStep_readable (window (pos s + 16) 16) _ s hr

/-- Settles O41: a reading step whose bytes are admitted gives its result. -/
theorem lastReadsTheFinalSixteenBytes : Obligations.LastReadsTheFinalSixteenBytes :=
  fun s hr => readStep_readable (window (s.lw.toNat - 16) 16) _ s hr

end Sys2Proof.Machine
end

section
/-! ## The finalizer -/

namespace Sys2Proof.Machine

/-! ### FINAL -/

/-- The audit variant of the finalization multiply (44_finalizer.md R160): the product halves are XORed
into the operands. -/
theorem finalPair_audit {c : Config} (h : c.finalMulFollowsMode = true ∧ c.mixMode = .accumulate)
    (x y : Word) : finalPair c x y = (x ^^^ (mul128 x y).1, y ^^^ (mul128 x y).2) := by
  obtain ⟨hfollows, hmode⟩ := h
  simp [finalPair, hfollows, hmode]

/-- In every other configuration the product halves replace the operands (44_finalizer.md R160). -/
theorem finalPair_bare {c : Config} (h : ¬(c.finalMulFollowsMode = true ∧ c.mixMode = .accumulate))
    (x y : Word) : finalPair c x y = mul128 x y :=
  if_neg (by simpa using h)

/-- What FINAL does once its two operands are known. -/
theorem exec_final_of_finalPair {s : State} {p : Word × Word}
    (h : finalPair s.cfg (s.a ^^^ s.s1) (s.b ^^^ s.seedw) = p) :
    exec .final s = .next { s with a := p.1, b := p.2, phase := .out } := by
  cases h
  rfl

/-- Settles O42: FINAL writes the pair of the configuration's variant. -/
theorem finalMultipliesTheOperands : Obligations.FinalMultipliesTheOperands := fun _ =>
  ⟨fun audit => exec_final_of_finalPair (finalPair_audit audit _ _),
    fun bare => exec_final_of_finalPair (finalPair_bare bare _ _)⟩

/-! ### OUT -/

/-- Settles O43: OUT reads no memory, so it has one outcome, in every state; `secretW` names the secrets as
the statement does. -/
theorem outWritesTheDigest : Obligations.OutWritesTheDigest := fun _ => rfl

end Sys2Proof.Machine
end

section
/-! ## The fixed-width commands -/

namespace Sys2Proof.Machine

/-! ### Words as two halves -/

/-- A half shifted up and a half below it are the two halves of a word. -/
theorem shiftLeft_or_eq_append (hi lo : BitVec 32) :
    (hi.setWidth 64 <<< 32) ||| lo.setWidth 64 = hi ++ lo := by
  rw [BitVec.append_def, BitVec.shiftLeftZeroExtend_eq, BitVec.setWidth'_eq]

theorem append_halves (v : Word) : v.extractLsb' 32 32 ++ v.extractLsb' 0 32 = v :=
  (BitVec.extractLsb'_append_extractLsb'_eq_extractLsb' rfl).trans BitVec.extractLsb'_eq_self

theorem ushiftRight_eq_high_half (v : Word) : v >>> 32 = (v.extractLsb' 32 32).setWidth 64 := by
  rw [← BitVec.setWidth_ushiftRight_eq_extractLsb]
  bv_omega

/-- FIX8's packing swaps the halves (45_fixed_width.md R170). -/
theorem swapHalves_eq_append (v : Word) :
    swapHalves v = v.extractLsb' 0 32 ++ v.extractLsb' 32 32 := by
  rw [swapHalves, ushiftRight_eq_high_half, shiftLeft_or_eq_append,
    BitVec.setWidth_eq_extractLsb' (by decide)]

/-- FIX4's packing doubles the low half (45_fixed_width.md R171). -/
theorem doubleLow_eq_append (v : Word) :
    doubleLow v = v.extractLsb' 0 32 ++ v.extractLsb' 0 32 := by
  rw [doubleLow, shiftLeft_or_eq_append, BitVec.setWidth_eq_extractLsb' (by decide)]

/-- Settles O44: the halves of A are the two parts of the append that each packing is. -/
theorem fixedWidthPacking : Obligations.FixedWidthPacking := by
  refine fun s => ⟨⟨_, rfl, rfl, ?swapHigh, ?swapLow⟩, ⟨_, rfl, rfl, ?doubleHigh, ?doubleLow⟩⟩
  case swapHigh => exact swapHalves_eq_append s.vw ▸ BitVec.extractLsb'_append_eq_left
  case swapLow => exact swapHalves_eq_append s.vw ▸ BitVec.extractLsb'_append_eq_right
  case doubleHigh => exact doubleLow_eq_append s.vw ▸ BitVec.extractLsb'_append_eq_left
  case doubleLow => exact doubleLow_eq_append s.vw ▸ BitVec.extractLsb'_append_eq_right

/-! ### A digest over the bytes of a value -/

section
variable {buf : Nat → Byte} {v : Word} {n : Nat}

/-- Byte `k` of `bytes_le(v, n)` (20_memory.md R60). -/
theorem eq_of_some_eq_bytesLe {b : Byte} {k : Nat} (hk : k < n) (h : some b = (bytesLe v n)[k]?) :
    b = (v >>> (8 * k)).setWidth 8 := by
  simpa [bytesLe, hk] using h

/-- A 32-bit window of a buffer that holds a value's bytes is 32 bits of the value. -/
theorem bufRead32_of_bytes (hbuf : ∀ k < n, buf k = (v >>> (8 * k)).setWidth 8) {off : Nat}
    (hoff : off + 4 ≤ n) :
    bufRead32 buf n off = (v.extractLsb' (8 * off) 32).setWidth 64 := by
  have hbytes : (List.range 4).map (fun k => bufByte buf n (off + k)) =
      bytesLe (v >>> (8 * off)) 4 := by
    refine List.map_congr_left fun k hk => ?_
    have hlt : off + k < n := by have := List.mem_range.1 hk; omega
    rw [bufByte, if_pos hlt, hbuf _ hlt, Nat.mul_add, BitVec.shiftRight_add]
  rw [bufRead32, hbytes]
  ext i hi
  rw [← BitVec.getLsbD_eq_getElem, leWord_bytesLe_getLsbD _ 4 hi]
  simp

/-- Over the eight bytes of a value the windows of SHORT pack what FIX8 packs (45_fixed_width.md R170). -/
theorem rapidhash_eight (c : Config) (seed : Word) (sec : Fin 3 → Word)
    (hbuf : ∀ k < 8, buf k = (v >>> (8 * k)).setWidth 8) :
    rapidhash c buf 8 seed sec = hashFix8 c 8 sec v (derivedSeed c 8 sec seed) := by
  have hlow : bufRead32 buf 8 0 = (v.extractLsb' 0 32).setWidth 64 :=
    bufRead32_of_bytes hbuf (by decide)
  have hhigh : bufRead32 buf 8 4 = (v.extractLsb' 32 32).setWidth 64 :=
    bufRead32_of_bytes hbuf (by decide)
  calc rapidhash c buf 8 seed sec
      = hashFinish c 8 sec ((bufRead32 buf 8 0 <<< 32) ||| bufRead32 buf 8 4)
          ((bufRead32 buf 8 4 <<< 32) ||| bufRead32 buf 8 0) (derivedSeed c 8 sec seed) := rfl
    _ = hashFix8 c 8 sec v (derivedSeed c 8 sec seed) := by
      rw [hlow, hhigh, shiftLeft_or_eq_append, shiftLeft_or_eq_append, append_halves,
        ← swapHalves_eq_append, hashFix8]

/-- Over the four low bytes of a value the windows of SHORT pack what FIX4 packs
(45_fixed_width.md R171). -/
theorem rapidhash_four (c : Config) (seed : Word) (sec : Fin 3 → Word)
    (hbuf : ∀ k < 4, buf k = (v >>> (8 * k)).setWidth 8) :
    rapidhash c buf 4 seed sec = hashFix4 c 4 sec v (derivedSeed c 4 sec seed) := by
  have hlow : bufRead32 buf 4 0 = (v.extractLsb' 0 32).setWidth 64 :=
    bufRead32_of_bytes hbuf (by decide)
  calc rapidhash c buf 4 seed sec
      = hashFinish c 4 sec ((bufRead32 buf 4 0 <<< 32) ||| bufRead32 buf 4 0)
          ((bufRead32 buf 4 0 <<< 32) ||| bufRead32 buf 4 0) (derivedSeed c 4 sec seed) := rfl
    _ = hashFix4 c 4 sec v (derivedSeed c 4 sec seed) := by
      rw [hlow, shiftLeft_or_eq_append, ← doubleLow_eq_append, hashFix4]

end

/-- Settles O59: DIGEST leaves RAPIDHASH of the buffer, which for these two lengths is what the fixed-width
command leaves. -/
theorem fixedWidthEquivalence : Obligations.FixedWidthEquivalence := by
  rintro s _ _ n op ds dk rest rest' hop rfl rfl hrest hrest' hidle hlen hadm hquiet hbytes
  have hL : s.len.toNat = n := by
    rw [hlen, BitVec.toNat_ofNat, Nat.mod_eq_of_lt (by omega)]
  have hbuf : ∀ k < n, s.mem.read (s.src.toNat + k) = (s.value >>> (8 * k)).setWidth 8 :=
    fun k hk => eq_of_some_eq_bytesLe hk (hbytes k hk)
  obtain ⟨j, u, hends', hdig', hdone', -⟩ :=
    digestCommand_ends (s := { s with schedule := .host (.write 0x00 (commandWord 1 ds dk)) :: rest' })
      (buf := fun k => s.mem.read (s.src.toNat + k)) hidle rfl hrest'
      (fun k hk => hadm k (hL ▸ hk)) (fun _ _ => rfl) (hL.symm ▸ hquiet)
  have hfive : coreSteps s.cfg .digest s.len.toNat = 5 := if_pos (by omega)
  rw [hfive] at hends'
  rw [hlen] at hdig'
  rcases hop with ⟨rfl, rfl⟩ | ⟨rfl, rfl⟩
  · obtain ⟨i, t, hends, hdig, hdone, -⟩ := fixed64Command_ends (ds := ds) (dk := dk)
      (s := { s with schedule := .host (.write 0x00 (commandWord 2 ds dk)) :: rest }) hidle rfl hrest
    exact ⟨i, t, j, u, hends, hends', hdone, hdone',
      hdig.trans (hdig'.trans (rapidhash_eight _ _ _ hbuf)).symm⟩
  · obtain ⟨i, t, hends, hdig, hdone, -⟩ := fixed32Command_ends (ds := ds) (dk := dk)
      (s := { s with schedule := .host (.write 0x00 (commandWord 3 ds dk)) :: rest }) hidle rfl hrest
    exact ⟨i, t, j, u, hends, hends', hdone, hdone',
      hdig.trans (hdig'.trans (rapidhash_four _ _ _ hbuf)).symm⟩

end Sys2Proof.Machine
end

section
/-! ## Commands and register accesses -/

namespace Sys2Proof.Machine

/-! ### The digest commands and CLRSTAT -/

/-- A digest command is the accept of its operands, written to CMD (46_commands.md R184, R185). -/
theorem exec_commandOf_eq_command (k : Kind) (ds dk : Bool) (s : State) :
    exec (commandOf k ds dk) s = command (accept k ds dk) s := by
  cases k <;> rfl

/-- Settles O7: a command written while idle has its effect, and `accept` names the operands that DS and DK
choose as the statement writes them out. -/
theorem digestCommandsLatchTheirOperands : Obligations.DigestCommandsLatchTheirOperands :=
  fun _ ds dk hidle =>
    ⟨exec_commandOf .digest ds dk hidle, exec_commandOf .fixed64 ds dk hidle,
      exec_commandOf .fixed32 ds dk hidle⟩

/-- Settles O8: a command written while idle has its effect. -/
theorem clrstatClearsTheStatus : Obligations.ClrstatClearsTheStatus :=
  fun s hidle => command_idle clearStatus s hidle

/-- DS and DK reach a digest command through the operands they choose only (46_commands.md R183). -/
theorem exec_commandOf_congr (k : Kind) {s : State} {ds ds' dk dk' : Bool}
    (hseed : seedOperand ds s = seedOperand ds' s) (hsecret : secretOperand dk s = secretOperand dk' s) :
    exec (commandOf k ds dk) s = exec (commandOf k ds' dk') s := by
  have haccept : accept k ds dk s = accept k ds' dk' s := by simp only [accept, hseed, hsecret]
  rw [exec_commandOf_eq_command, exec_commandOf_eq_command, command, command, haccept]

/-- With the default in SEED either value of DS chooses it. -/
theorem seedOperand_default {s : State} (h : s.seed = defaultSeed) :
    seedOperand true s = seedOperand false s := h.symm

/-- With the defaults in SECRET0 to SECRET2 either value of DK chooses them. -/
theorem secretOperand_default {s : State} (h0 : s.secret0 = defaultSecret 0)
    (h1 : s.secret1 = defaultSecret 1) (h2 : s.secret2 = defaultSecret 2) :
    secretOperand true s = secretOperand false s := by
  funext k
  match k with
  | 0 => exact h0.symm
  | 1 => exact h1.symm
  | 2 => exact h2.symm

/-- Settles O50: with the defaults in the registers both values of DS, and both of DK, choose the same
operand. -/
theorem defaultOperandsMatchTheRegisters : Obligations.DefaultOperandsMatchTheRegisters := by
  refine fun s ds dk => ⟨fun hseed => ?_, fun h0 h1 h2 => ?_⟩
  · have equal (k : Kind) : exec (commandOf k true dk) s = exec (commandOf k false dk) s :=
      exec_commandOf_congr k (seedOperand_default hseed) rfl
    exact ⟨equal .digest, equal .fixed64, equal .fixed32⟩
  · have equal (k : Kind) : exec (commandOf k ds true) s = exec (commandOf k ds false) s :=
      exec_commandOf_congr k rfl (secretOperand_default h0 h1 h2)
    exact ⟨equal .digest, equal .fixed64, equal .fixed32⟩

/-! ### Register reads -/

/-- A host read at a multiple of 8 notes what the window holds there. -/
theorem step_read {s : State} {off : Offset} (hoff : off.toNat % 8 = 0)
    (hs : s.schedule.head? = some (.host (.read off))) :
    step s = .next { s with reads := (off, readWindow off s) :: s.reads, schedule := s.schedule.tail } := by
  have hwf : offsetWf off = true := beq_iff_eq.2 hoff
  rw [step_of_host ((nextTurn_host_iff s _).2 hs) nofun]
  exact if_pos hwf

/-- Settles O12: the read notes the value of the window, which is evaluated at each register and is 0 at the
reserved offsets. -/
theorem registerReadsChangeNothing : Obligations.RegisterReadsChangeNothing := by
  intro s off hoff hs
  refine ⟨readWindow off s, step_read hoff hs, ?_, ?_, ?_, ?_, ?_, ?_, ?_, ?_, ?_, ?_, ?_, ?_,
    fun hreserved => ?_⟩
  case refine_13 => rw [readWindow, regAt_reserved hreserved]
  all_goals
    rintro rfl
    rfl

/-! ### Register writes -/

/-- A write at a multiple of 8 other than CMD's offset is a write to the window. -/
theorem step_write_window {s : State} {off : Offset} {v : Word} (hoff : off.toNat % 8 = 0)
    (hcmd : regAt off ≠ some .cmd) (hs : s.schedule.head? = some (.host (.write off v))) :
    step s = .next (writeWindow off v (advance s)) := by
  have hwf : offsetWf off = true := beq_iff_eq.2 hoff
  rw [step_of_write ((nextTurn_host_iff s _).2 hs) hcmd]
  simp only [hostEvent, atOffset, hwf, if_true, if_neg hcmd]

theorem regAt_regOffset (r : Reg) : regAt (regOffset r) = some r := by
  cases r <;> rfl

theorem regOffset_mod (r : Reg) : (regOffset r).toNat % 8 = 0 := by
  cases r <;> rfl

/-- No register but CMD takes a written word for a command (10_state.md R23). -/
theorem regAt_regOffset_ne_cmd {r : Reg} (hr : r ≠ .cmd) : regAt (regOffset r) ≠ some .cmd := by
  rw [regAt_regOffset, Ne, Option.some.injEq]
  exact hr

theorem ne_cmd_of_writable {r : Reg} (hr : writable r = true) : r ≠ .cmd := by
  rintro rfl
  cases hr

/-- The read/write registers, in the order of their offsets (10_state.md R22). -/
def writableRegs : List Reg := [.seed, .len, .src, .value, .secret0, .secret1, .secret2]

theorem mem_writableRegs_iff (r : Reg) : r ∈ writableRegs ↔ writable r = true := by
  cases r <;> decide

/-- The registers a host write leaves alone (46_commands.md R188). -/
def readOnlyRegs : List Reg := [.status, .digest, .config, .errinfo]

theorem mem_readOnlyRegs_iff (r : Reg) : r ∈ readOnlyRegs ↔ writable r = false ∧ r ≠ .cmd := by
  cases r <;> decide

/-- ERRINFO after an error, with the error bits written out (60_exceptions.md R204). -/
theorem errinfoAfter_eq (c : ErrorCause) (s : State) : errinfoAfter c s =
    if s.illegal || s.wbusy || s.buserr then s.errinfo else c.record := by
  have hno : noError s = !(s.illegal || s.wbusy || s.buserr) := by simp [noError]
  rw [errinfoAfter, hno]
  cases s.illegal || s.wbusy || s.buserr <;> rfl

theorem raise_writeWhileBusy_eq (off : Offset) (s : State) : raise (.writeWhileBusy off) s = { s with
    wbusy := true
    errinfo := if s.illegal || s.wbusy || s.buserr then s.errinfo else off.setWidth 64 } := by
  rw [raise, errinfoAfter_eq, ErrorCause.record]

section
variable {s : State} {r : Reg} {off : Offset} {v : Word}

/-- A read/write register takes the value written while idle. -/
theorem step_write_idle (hr : writable r = true) (hidle : s.busy = false)
    (hs : s.schedule.head? = some (.host (.write (regOffset r) v))) :
    step s = .next (writeReg r v (advance s)) := by
  rw [step_write_window (regOffset_mod r) (regAt_regOffset_ne_cmd (ne_cmd_of_writable hr)) hs]
  simp [writeWindow, regAt_regOffset, hr, hidle]

/-- A write to a read/write register while busy is an error and nothing else (60_exceptions.md R202). -/
theorem step_write_busy (hr : writable r = true) (hbusy : s.busy = true)
    (hs : s.schedule.head? = some (.host (.write (regOffset r) v))) :
    step s = .next (raise (.writeWhileBusy (regOffset r)) (advance s)) := by
  rw [step_write_window (regOffset_mod r) (regAt_regOffset_ne_cmd (ne_cmd_of_writable hr)) hs]
  simp [writeWindow, regAt_regOffset, hr, hbusy]

/-- A write to a register that is not read/write is ignored, CMD aside. -/
theorem step_write_readOnly (hr : writable r = false) (hcmd : r ≠ .cmd)
    (hs : s.schedule.head? = some (.host (.write (regOffset r) v))) : step s = .next (advance s) := by
  rw [step_write_window (regOffset_mod r) (regAt_regOffset_ne_cmd hcmd) hs]
  simp [writeWindow, regAt_regOffset, hr]

/-- A write to a reserved offset is ignored (10_state.md R35). -/
theorem step_write_reserved (hoff : off.toNat % 8 = 0) (hreserved : 0x60 ≤ off.toNat)
    (hs : s.schedule.head? = some (.host (.write off v))) : step s = .next (advance s) := by
  have hnone := regAt_reserved hreserved
  rw [step_write_window hoff (by simp [hnone]) hs]
  simp [writeWindow, hnone]

end

/-- Settles O11: by the register at the offset, which is read/write, read-only or none. -/
theorem registerWritesTakeEffectOrAreIgnored : Obligations.RegisterWritesTakeEffectOrAreIgnored := by
  intro s off v hs
  refine ⟨fun hidle => ?_, fun hbusy hoff => ?_, fun hignored => ?_⟩
  · have taken (r : Reg) (hr : writable r = true) (hoff : off = regOffset r) :
        step s = .next (writeReg r v (advance s)) := step_write_idle hr hidle (hoff ▸ hs)
    exact ⟨taken .seed rfl, taken .len rfl, taken .src rfl, taken .value rfl, taken .secret0 rfl,
      taken .secret1 rfl, taken .secret2 rfl⟩
  · have hmem : off ∈ writableRegs.map regOffset := hoff
    obtain ⟨r, hr, rfl⟩ := List.mem_map.1 hmem
    rw [step_write_busy ((mem_writableRegs_iff r).1 hr) hbusy hs, raise_writeWhileBusy_eq]
    rfl
  · rcases hignored with hoff | ⟨hreserved, hoff⟩
    · have hmem : off ∈ readOnlyRegs.map regOffset := hoff
      obtain ⟨r, hr, rfl⟩ := List.mem_map.1 hmem
      obtain ⟨hr, hcmd⟩ := (mem_readOnlyRegs_iff r).1 hr
      exact step_write_readOnly hr hcmd hs
    · exact step_write_reserved hoff hreserved hs

end Sys2Proof.Machine
end

section
/-! ## Whole commands -/

namespace Sys2Proof.Machine

/-! ### What a command leaves in DIGEST -/

/-- Settles O57: the input bytes the host keeps are those the memory holds at the write to CMD. -/
theorem digestCommandComputesRapidhash : Obligations.DigestCommandComputesRapidhash :=
  fun _ _ _ _ hidle hs hrest hadm hquiet =>
    digestCommand_ends hidle hs hrest hadm (fun _ _ => rfl) hquiet

/-- Settles O58: what FIX8 and FIX4 pack is what RAPIDHASH packs of the bytes of VALUE. -/
theorem fixedCommandsComputeRapidhash : Obligations.FixedCommandsComputeRapidhash := by
  refine fun s ds dk rest hidle hrest => ⟨fun hs => ?_, fun hs => ?_⟩
  · rw [rapidhash_eight s.cfg _ _ fun _ _ => rfl]
    exact fixed64Command_ends hidle hs hrest
  · rw [rapidhash_four s.cfg _ _ fun _ _ => rfl]
    exact fixed32Command_ends hidle hs hrest

/-! ### Every command ends -/

/-- A digest command is in progress and the turns to come are lawful; the host may store to its input and the
memory may refuse it. -/
structure InProgress (s : State) : Prop where
  inv : Inv s
  running : s.phase ≠ .idle
  turns : ∀ x ∈ s.schedule, lawful s.cfg x = true

/-- How a command ends that has `k` core steps made from `s` on to its end at `t`: it completes in all the steps
ahead of `s`, or aborts in fewer (46_commands.md R190). -/
def CompletedOrAborted (s : State) (k : Nat) (t : State) : Prop :=
  (k = stepsAhead s ∧ t.done = true) ∨
    (k < stepsAhead s ∧ t.done = false ∧ t.buserr = true ∧ t.digest = s.digest)

/-- The number of core steps in the next turn: one on a core turn, none on the host's. -/
def coreStepsOfTurn (s : State) : Nat := if nextTurn s = .core then 1 else 0

/-- A turn after which the command is still in progress, with that turn's core step taken off the steps ahead;
a host's turn brings the next core turn nearer. -/
structure GoesOn (s t : State) : Prop where
  inProgress : InProgress t
  steps : stepsAhead s = coreStepsOfTurn s + stepsAhead t
  digest : t.digest = s.digest
  nearer : coreStepsOfTurn s = 0 → hostTurnsAhead t.schedule < hostTurnsAhead s.schedule

/-- A turn that ends the command. -/
structure EndsCommand (s t : State) : Prop where
  idle : t.phase = .idle
  notBusy : t.busy = false
  outcome : CompletedOrAborted s (coreStepsOfTurn s) t

/-- A phase that reads the input is not the command's last (20_memory.md R65). -/
theorem one_lt_stepsAhead {s : State} (h : s.phase ∈ readingPhases) : 1 < stepsAhead s := by
  unfold stepsAhead
  cases hp : s.phase <;> rw [hp] at h <;> simp only [stepsFrom]
  case tiny | short | block | tail1 | tail2 | last => omega
  all_goals exact absurd h (by decide)

section
variable {s t : State}

theorem CompletedOrAborted.cons {u : State} {k : Nat} (h : CompletedOrAborted u k t) (hs : GoesOn s u) :
    CompletedOrAborted s (coreStepsOfTurn s + k) t := by
  rcases h with ⟨hk, hdone⟩ | ⟨hk, hdone, herr, hdig⟩
  · exact .inl ⟨by rw [hs.steps, hk], hdone⟩
  · exact .inr ⟨by rw [hs.steps]; omega, hdone, herr, hdig.trans hs.digest⟩

theorem InProgress.busy (h : InProgress s) : s.busy = true := h.inv.busy_iff.2 h.running

/-- A lawful turn of the host leaves the phase and DIGEST of the command in progress. -/
theorem InProgress.host_turn_keeps (h : InProgress s) {e : HostEvent} (hn : nextTurn s = .host e)
    (hs : step s = .next t) : t.phase = s.phase ∧ t.digest = s.digest := by
  have hhead := schedule_head_of_nextTurn hn
  have hreset : e ≠ .reset := by
    rintro rfl
    exact absurd (h.turns _ (List.mem_of_head? hhead)) (by simp [lawful])
  constructor
  · rcases (phasesFollowTheSuccessorTable s t h.inv hs).2 e hhead with hp | ⟨hidle, -⟩ | ⟨he, -⟩
    · exact hp
    · exact absurd hidle h.running
    · exact absurd he hreset
  · rcases digestIsWrittenOnlyByOut s t hs with hd | hout | hr
    · exact hd
    · obtain ⟨-, w, -, -, hd⟩ := fetch_host s e .out hn hout
      cases decodeCommand_isCommand hd
    · rw [hhead] at hr
      cases hr
      exact absurd rfl hreset

/-- The steps ahead are a matter of the sequencer's control (43_block_loop.md R147). -/
theorem SameControl.stepsAhead_eq (h : SameControl s t) : stepsAhead s = stepsAhead t := by
  rw [stepsAhead, stepsAhead, h.cfg, h.kind, h.lw, h.i, h.phase]

theorem InProgress.host_turn (h : InProgress s) {e : HostEvent} (hn : nextTurn s = .host e)
    (hs : step s = .next t) : GoesOn s t := by
  obtain ⟨hphase, hdigest⟩ := h.host_turn_keeps hn hs
  have hinv := stepKeepsTheInvariant s t h.inv hs
  have hrunning : t.phase ≠ .idle := hphase ▸ h.running
  obtain ⟨hc, hsched⟩ := host_turn_sameControl hn h.busy (hinv.busy_iff.2 hrunning) hs
  have hcore : coreStepsOfTurn s = 0 := by simp [coreStepsOfTurn, hn]
  have htail : ∀ x ∈ s.schedule.tail, lawful t.cfg x = true := fun x hx =>
    hc.cfg ▸ h.turns x (List.mem_of_mem_tail hx)
  refine ⟨⟨hinv, hrunning, ?_⟩, ?_, hdigest, fun _ => ?_⟩
  · rcases hsched with hsched | hsched <;> rw [hsched]
    · exact htail
    · exact List.forall_mem_cons.2 ⟨rfl, List.forall_mem_cons.2 ⟨rfl, htail⟩⟩
  · rw [hcore, Nat.zero_add, hc.stepsAhead_eq]
  · rw [hostTurnsAhead_of_host hn]
    rcases hsched with hsched | hsched <;> rw [hsched]
    · exact Nat.lt_succ_self _
    · exact Nat.succ_pos _

/-- A core turn aborts the command, completes it in its last step, or goes on to the successor. -/
theorem InProgress.core_turn (h : InProgress s) (hn : nextTurn s = .core) (hs : step s = .next t) :
    EndsCommand s t ∨ GoesOn s t := by
  have hinv := stepKeepsTheInvariant s t h.inv hs
  have hcore : coreStepsOfTurn s = 1 := if_pos hn
  obtain ⟨i, hi⟩ := exists_microOf h.running
  obtain ⟨hidle, hiff⟩ := microOf_out_iff hi
  rw [step_of_fetch ((fetch_core s hn).trans hi)] at hs
  cases exec_microEffect (microOf_isCommand hi) hs with
  | abort p hp =>
    have hlt := one_lt_stepsAhead (hp.reading_phase (s := advance s) hi)
    exact .inl ⟨by simp, by simp, .inr ⟨hcore ▸ hlt, by simp, by simp, by simp⟩⟩
  | complete hout d =>
    have hlast : stepsAhead s = 1 := by rw [stepsAhead, hiff.1 hout]; rfl
    exact .inl ⟨rfl, rfl, .inl ⟨hcore.trans hlast.symm, rfl⟩⟩
  | work hout hr x =>
    obtain ⟨hp, hc⟩ := exec_successor (s := advance s) hi hr hs
    have hsteps : stepsAhead s = stepsAhead ((advance s).withScratch x) + 1 :=
      stepsAhead_successor (s := advance s) hidle h.inv.phase_facts rfl rfl rfl hp hc
    refine .inr ⟨⟨hinv, ?_, fun y hy => h.turns y (List.mem_of_mem_tail hy)⟩, ?_, rfl, ?_⟩
    · rw [hp, Ne, successor_eq_idle_iff (s := advance s) hidle]
      exact fun hlast => hout (hiff.2 hlast)
    · rw [hcore, Nat.add_comm]
      exact hsteps
    · rw [hcore]
      exact nofun

theorem InProgress.turn (h : InProgress s) (hs : step s = .next t) : EndsCommand s t ∨ GoesOn s t := by
  cases hn : nextTurn s with
  | core => exact h.core_turn hn hs
  | host e => exact .inr (h.host_turn hn hs)

end

/-- A command in progress ends under every lawful schedule: each core turn leaves fewer steps ahead, and each
host's turn fewer turns before the next core turn. -/
theorem InProgress.ends {s : State} (h : InProgress s) :
    ∃ n k t, CommandEnds s n k t ∧ CompletedOrAborted s k t := by
  obtain ⟨u, hs⟩ := step_exists h.turns
  rcases h.turn hs with hend | hon
  · exact ⟨1, _, u, CommandEnds.single hs hend.idle hend.notBusy, hend.outcome⟩
  · obtain ⟨n, k, t, hends, hout⟩ := hon.inProgress.ends
    exact ⟨n + 1, _, t, hends.cons hs hon.inProgress.busy hon.digest, hout.cons hon⟩
termination_by (stepsAhead s, hostTurnsAhead s.schedule)
decreasing_by
  have hsteps := hon.steps
  rcases Nat.eq_zero_or_pos (coreStepsOfTurn s) with hzero | hpos
  · rw [hsteps, hzero, Nat.zero_add]
    exact Prod.Lex.right _ (hon.nearer hzero)
  · exact Prod.Lex.left _ _ (by omega)

/-- Settles O56: at SEED the steps ahead are the tabulated core steps of the whole command. -/
theorem acceptedCommandsEnd : Obligations.AcceptedCommandsEnd := by
  intro s hinv hp hturns
  have hahead : stepsAhead s = coreSteps s.cfg s.kind s.lw.toNat := by rw [stepsAhead, hp]; rfl
  have hs : InProgress s := ⟨hinv, by rw [hp]; decide, hturns⟩
  simpa only [CompletedOrAborted, hahead] using hs.ends

end Sys2Proof.Machine
end

section
/-! ## The errors -/

namespace Sys2Proof.Machine

/-! ### What a raised error leaves -/

theorem raise_illegalCommand_eq (w : Word) (s : State) : raise (.illegalCommand w) s = { s with
    illegal := true
    errinfo := if s.illegal || s.wbusy || s.buserr then s.errinfo else w } := by
  rw [raise, errinfoAfter_eq, ErrorCause.record]

theorem raise_busError_eq (p : Nat) (s : State) : raise (.busError p) s = { s with
    buserr := true
    errinfo := if s.illegal || s.wbusy || s.buserr then s.errinfo else BitVec.ofNat 64 p
    busy := false
    done := false
    phase := .idle } := by
  rw [raise, errinfoAfter_eq, ErrorCause.record, abortFlags]

/-! ### Refused reads -/

/-- The micro-operations that read the input (20_memory.md R65). -/
def readingInstrs : List Instr := [.tiny, .short, .block, .tail1, .tail2, .last]

/-- An instruction outside these reads no byte. -/
theorem mem_readingInstrs_of_mem_readSet {i : Instr} {s : State} {j : Nat} (hj : j ∈ readSet i s) :
    i ∈ readingInstrs := by
  cases i with
  | tiny | short | block | tail1 | tail2 | last => decide
  | _ => cases hj

theorem LowestRefused.mem_readingInstrs {i : Instr} {s : State} {p : Nat}
    (h : LowestRefused s (readSet i s) p) : i ∈ readingInstrs := by
  obtain ⟨⟨j, hj, -⟩, -⟩ := h
  exact mem_readingInstrs_of_mem_readSet hj

/-- A reading micro-operation with a refused byte aborts, whatever its result would have been
(20_memory.md R68). -/
theorem exec_of_lowestRefused {i : Instr} {s : State} {p : Nat} (hi : i ∈ readingInstrs)
    (h : LowestRefused s (readSet i s) p) : exec i s = .next (raise (.busError p) s) := by
  cases i with
  | tiny | short | block | tail1 | tail2 | last => exact readStep_refused _ _ s p h
  | _ => simp [readingInstrs] at hi

/-- BUSERR comes from an abort only, and so from an instruction that reads. -/
theorem exec_buserr_of_not_reading {i : Instr} {s t : State} (hi : i ∉ readingInstrs)
    (h : exec i s = .next t) (hbus : t.buserr = true) : s.buserr = true := by
  cases hc : i.isCommand with
  | true =>
    cases exec_commandEffect hc h with
    | dropped => exact hbus
    | cleared => cases hbus
    | accepted => exact hbus
  | false =>
    cases exec_microEffect hc h with
    | abort p hp => exact absurd hp.mem_readingInstrs hi
    | complete => exact hbus
    | work => exact hbus

/-- Settles O45: a refused byte turns the reading step into the raise of a bus error, and no other effect of
an instruction sets BUSERR. -/
theorem refusedReadsAbortTheCommand : Obligations.RefusedReadsAbortTheCommand := by
  refine ⟨fun i s p hi hp => ?_, fun i s t hi h hbus => exec_buserr_of_not_reading hi h hbus⟩
  rw [exec_of_lowestRefused hi hp, raise_busError_eq]

/-! ### Words written to CMD -/

/-- Every command written while busy is dropped (60_exceptions.md R202). -/
theorem exec_command_busy {i : Instr} {s : State} (hc : i.isCommand = true) (hbusy : s.busy = true) :
    exec i s = .next (raise (.writeWhileBusy 0) s) := by
  cases i with
  | digest | fixed64 | fixed32 | clrstat => exact command_busy _ s hbusy
  | _ => cases hc

section
variable {s : State} {w : Word}

/-- A word that is no command issues no instruction: its write to CMD is the host event alone. -/
theorem step_write_illegal (hw : ∀ i, decodeCommand w ≠ .ok i)
    (hs : s.schedule.head? = some (.host (.write 0x00 w))) :
    step s = .next (illegalWord w (advance s)) := by
  have hn := (nextTurn_host_iff s _).2 hs
  have hf : fetch s = none := by
    cases hf : fetch s with
    | none => rfl
    | some i =>
      obtain ⟨_, _, he, -, hd⟩ := fetch_host s _ i hn hf
      cases he
      exact absurd hd (hw i)
  simp only [step, hf, hn, otherTurn]
  rfl

/-- A write to CMD while busy is dropped, whether its word is a command or not (60_exceptions.md R202). -/
theorem step_write_cmd_busy (hbusy : s.busy = true)
    (hs : s.schedule.head? = some (.host (.write 0x00 w))) :
    step s = .next (raise (.writeWhileBusy 0) (advance s)) := by
  by_cases hw : ∃ i, decodeCommand w = .ok i
  · obtain ⟨i, hd⟩ := hw
    rw [stepRunsTheIssuedInstruction s i (.inr ⟨w, hs, hd⟩)]
    exact exec_command_busy (decodeCommand_isCommand hd) hbusy
  · rw [step_write_illegal (not_exists.1 hw) hs, illegalWord, advance_busy, if_pos hbusy]

/-- A write to CMD while idle of a word that is no command is reported (60_exceptions.md R201). -/
theorem step_write_illegal_idle (hw : ∀ i, decodeCommand w ≠ .ok i) (hidle : s.busy = false)
    (hs : s.schedule.head? = some (.host (.write 0x00 w))) :
    step s = .next (raise (.illegalCommand w) (advance s)) := by
  rw [step_write_illegal hw hs, illegalWord, advance_busy, hidle, if_neg Bool.false_ne_true]

end

/-- Settles O9: the write to CMD is dropped whatever its word, and the other registers are O11's. -/
theorem writesWhileBusyAreDropped : Obligations.WritesWhileBusyAreDropped := by
  refine fun s hbusy => ⟨fun off v hoff hs => ?_, fun i hc => ?_⟩
  · rcases List.mem_cons.1 hoff with rfl | hreg
    · rw [step_write_cmd_busy hbusy hs, raise_writeWhileBusy_eq]
      rfl
    · obtain ⟨-, dropped, -⟩ := registerWritesTakeEffectOrAreIgnored s off v hs
      exact dropped hbusy hreg
  · rw [exec_command_busy hc hbusy, raise_writeWhileBusy_eq]
    rfl

/-- Settles O10: a word that decodes is one of the thirteen, by O2. -/
theorem illegalWordsAreReported : Obligations.IllegalWordsAreReported := by
  intro s w hidle hlist hs
  have hw (i : Instr) (hd : decodeCommand w = .ok i) : False :=
    hlist (List.mem_map_of_mem (f := Prod.fst) ((legalCommandWordsAreTheThirteen w i).1 hd))
  rw [step_write_illegal_idle hw hidle hs, raise_illegalCommand_eq]
  rfl

end Sys2Proof.Machine
end

section
/-! ## Reset -/

namespace Sys2Proof.Machine

/-- A reset turn runs no instruction: it resets the block on the state past the turn. -/
theorem step_reset {s : State} (hs : s.schedule.head? = some (.host .reset)) :
    step s = .next (blockReset (advance s)) :=
  step_of_host ((nextTurn_host_iff s _).2 hs) nofun

/-- CONFIG reads the build and nothing else of the state (10_state.md R31). -/
theorem readWindow_config (s : State) : readWindow 0x50 s = configWord s.cfg := rfl

/-- Settles O20: `blockReset` takes every register and the phase from `State.reset`, where they are evaluated,
and the build, the memory, the reads and the schedule from the state past the turn. -/
theorem resetEventRestoresTheRegisters : Obligations.ResetEventRestoresTheRegisters := by
  intro s hs
  refine ⟨blockReset (advance s), step_reset hs, rfl, rfl, rfl, rfl, rfl, rfl, rfl, rfl, rfl, rfl, rfl, rfl,
    rfl, rfl, rfl, ?config, ?configWord, fun p => ?memory, ?schedule, ?reads⟩
  case config => rw [blockReset_cfg, advance_cfg]
  case configWord => rw [readWindow_config, readWindow_config, blockReset_cfg, advance_cfg]
  case memory => rw [blockReset_mem, advance_mem]
  case schedule => rw [blockReset_schedule, advance_schedule]
  case reads => rw [blockReset_reads, advance_reads]

end Sys2Proof.Machine
end
